-- ==== Sys2Proof/Word.lean ====
section
/-! DEFINITION. The word types of the spec's notation (00_scope.md section 5): u8, u16, u32 and the 40-bit
transaction word of 30_encoding.md R72. -/

namespace Sys2Proof

/-- u8. -/
abbrev Byte := BitVec 8

/-- u16. -/
abbrev Half := BitVec 16

/-- u32, the width of every bus datum (20_memory.md R53). -/
abbrev Word := BitVec 32

/-- A transaction word TW (30_encoding.md R72). -/
abbrev TW := BitVec 40

end Sys2Proof
end

