-- ==== Sys2Proof/Syntax.lean ====
section
/-! DEFINITION. The register names of 10_state.md R23, the transactions of 30_encoding.md R74 as the ONE inductive
`Instr`, and the assembler's lines and pseudo-instructions (R78, R79). -/

namespace Sys2Proof

/-- The 16 words of the register window by name (10_state.md R23; RSVD13 to RSVD15 are R78's names). -/
inductive Reg where
  | ctrl | cmd | status | crcData | crcValue | reqAddr | txWord0 | txWord1
  | rxData | rxCount | rxWord0 | rxWord1 | rxValue | rsvd13 | rsvd14 | rsvd15
  deriving DecidableEq, Repr

/-- One constructor for each mnemonic of the transaction map (30_encoding.md R74). A constructor carries exactly the
operands R82 takes from DATA; the bits R82 ignores are dropped by the decoder. DESIGN CHOICE (log entry 12), safe:
no rule lets an ignored bit have an effect. -/
inductive Instr where
  | rdCtrl
  | rdCmd
  | rdStatus
  | rdCrcData
  | rdCrcValue
  | rdReqAddr
  | rdTxWord0
  | rdTxWord1
  | rdRxData
  | rdRxCount
  | rdRxWord0
  | rdRxWord1
  | rdRxValue
  /-- A read of the reserved word `w` (13, 14 or 15). -/
  | rdRsvd (w : BitVec 4)
  /-- `e` is DATA[0], CRC_CHK_EN. -/
  | wrCtrl (e : Bool)
  | crcInit
  | buildRequest
  | validate
  | rxClear
  /-- `op` is DATA[7:0], 0x00 or 0x05 to 0xFF. -/
  | cmdIllegal (op : Byte)
  /-- `k` is DATA[4], the clear request for CMD_ERR. -/
  | wrStatus (k : Bool)
  /-- `b` is DATA[7:0]. -/
  | wrCrcData (b : Byte)
  | wrCrcValue
  /-- `a` is DATA[7:0], the register address. -/
  | wrReqAddr (a : Byte)
  | wrTxWord0
  | wrTxWord1
  /-- `b` is DATA[7:0]. -/
  | wrRxData (b : Byte)
  | wrRxCount
  | wrRxWord0
  | wrRxWord1
  | wrRxValue
  /-- A write of the reserved word `w` (13, 14 or 15). -/
  | wrRsvd (w : BitVec 4)
  deriving DecidableEq, Repr

/-- Why a 40-bit word is no transaction: RSV != 000 (30_encoding.md R76, 93_implementation_defined.md I8). -/
inductive DecodeRefusal where
  | rsvNonzero (rsv : BitVec 3)
  deriving DecidableEq, Repr

/-- `<REG>` of an assembler line: a register name or a bare index `W<n>` (30_encoding.md R78). -/
inductive RegName where
  | named (r : Reg)
  | index (w : BitVec 4)
  deriving DecidableEq, Repr

/-- One line of a host program (30_encoding.md R78). -/
inductive AsmLine where
  | wr (r : RegName) (imm : Word)
  | rd (r : RegName)
  deriving DecidableEq, Repr

/-- The pseudo-instructions of 30_encoding.md R79. -/
inductive Pseudo where
  | crcInit
  | build
  | validate
  | rxClear
  | crc (b : Byte)
  | push (b : Byte)
  | req (a : Byte)
  | chkOn
  | chkOff
  | clrErr
  deriving DecidableEq, Repr

end Sys2Proof
end

