-- ==== Sys2Proof/WellFormed.lean ====
section
/-! DEFINITION. Which terms of `Instr` spell a row of the transaction map (30_encoding.md R74). -/

namespace Sys2Proof

/-- The reserved words are 13, 14 and 15 (10_state.md R23). -/
def isReservedWord (w : BitVec 4) : Bool := w == 13#4 || w == 14#4 || w == 15#4

/-- The illegal opcodes are 0x00 and 0x05 to 0xFF (30_encoding.md R75). -/
def isIllegalOpcode (op : Byte) : Bool := op == 0x00#8 || decide (5 ≤ op.toNat)

/-- The operand ranges of R74. A term that fails is read from no transaction word. -/
def Instr.wellFormed : Instr → Bool
  | .rdCtrl => true
  | .rdCmd => true
  | .rdStatus => true
  | .rdCrcData => true
  | .rdCrcValue => true
  | .rdReqAddr => true
  | .rdTxWord0 => true
  | .rdTxWord1 => true
  | .rdRxData => true
  | .rdRxCount => true
  | .rdRxWord0 => true
  | .rdRxWord1 => true
  | .rdRxValue => true
  | .rdRsvd w => isReservedWord w
  | .wrCtrl _ => true
  | .crcInit => true
  | .buildRequest => true
  | .validate => true
  | .rxClear => true
  | .cmdIllegal op => isIllegalOpcode op
  | .wrStatus _ => true
  | .wrCrcData _ => true
  | .wrCrcValue => true
  | .wrReqAddr _ => true
  | .wrTxWord0 => true
  | .wrTxWord1 => true
  | .wrRxData _ => true
  | .wrRxCount => true
  | .wrRxWord0 => true
  | .wrRxWord1 => true
  | .wrRxValue => true
  | .wrRsvd w => isReservedWord w

/-- The instruction spells a row of the transaction map. -/
abbrev Instr.WellFormed (i : Instr) : Prop := i.wellFormed = true

end Sys2Proof
end

