-- ==== Sys2Proof/Decode.lean ====
section
/-! DEFINITION. The fields of a transaction word (30_encoding.md R72), the decoder (R73, R74, R82; 43_control.md R174),
the encoder, the rows of opcode_table.json, and the assembler (R78, R79). -/

namespace Sys2Proof

/-! ### Fields of a transaction word (R72) -/

/-- DIR, bit 39: true for a write. -/
def twDir (tw : TW) : Bool := tw.getLsbD 39

/-- RSV, bits [38:36]. -/
def twRsv (tw : TW) : BitVec 3 := tw.extractLsb' 36 3

/-- W, bits [35:32]. -/
def twWord (tw : TW) : BitVec 4 := tw.extractLsb' 32 4

/-- DATA, bits [31:0]. -/
def twData (tw : TW) : Word := tw.extractLsb' 0 32

/-- The transaction word of a port cycle: DIR, RSV = 000, W, DATA (R72). -/
def mkTW (dir : Bool) (w : BitVec 4) (d : Word) : TW := BitVec.ofBool dir ++ (0#3 ++ (w ++ d))

/-! ### Operands taken from DATA (R82) -/

/-- DATA[7:0]: the operand of CMD, CRC_DATA, REQ_ADDR and RX_DATA writes. -/
def dataByte (d : Word) : Byte := d.extractLsb' 0 8

/-- DATA[0]: CRC_CHK_EN of a CTRL write. -/
def dataChkEn (d : Word) : Bool := d.getLsbD 0

/-- DATA[4]: the clear request of a STATUS write. -/
def dataClearErr (d : Word) : Bool := d.getLsbD 4

/-! ### The register map (10_state.md R23) -/

/-- The word index of a register. -/
def Reg.index : Reg → BitVec 4
  | .ctrl => 0#4
  | .cmd => 1#4
  | .status => 2#4
  | .crcData => 3#4
  | .crcValue => 4#4
  | .reqAddr => 5#4
  | .txWord0 => 6#4
  | .txWord1 => 7#4
  | .rxData => 8#4
  | .rxCount => 9#4
  | .rxWord0 => 10#4
  | .rxWord1 => 11#4
  | .rxValue => 12#4
  | .rsvd13 => 13#4
  | .rsvd14 => 14#4
  | .rsvd15 => 15#4

/-- The register at a word index; every index has one. -/
def Reg.ofIndex (w : BitVec 4) : Reg :=
  match w.toNat with
  | 0 => .ctrl
  | 1 => .cmd
  | 2 => .status
  | 3 => .crcData
  | 4 => .crcValue
  | 5 => .reqAddr
  | 6 => .txWord0
  | 7 => .txWord1
  | 8 => .rxData
  | 9 => .rxCount
  | 10 => .rxWord0
  | 11 => .rxWord1
  | 12 => .rxValue
  | 13 => .rsvd13
  | 14 => .rsvd14
  | _ => .rsvd15

/-! ### The decoder -/

/-- Command decode (43_control.md R174): DATA[7:0] alone selects the operation, and every value but 0x01 to 0x04 is
illegal. -/
def decodeCommand (op : Byte) : Instr :=
  if op = 0x01#8 then .crcInit
  else if op = 0x02#8 then .buildRequest
  else if op = 0x03#8 then .validate
  else if op = 0x04#8 then .rxClear
  else .cmdIllegal op

/-- The read rows of R74; DATA is ignored. -/
def decodeRead : Reg → Instr
  | .ctrl => .rdCtrl
  | .cmd => .rdCmd
  | .status => .rdStatus
  | .crcData => .rdCrcData
  | .crcValue => .rdCrcValue
  | .reqAddr => .rdReqAddr
  | .txWord0 => .rdTxWord0
  | .txWord1 => .rdTxWord1
  | .rxData => .rdRxData
  | .rxCount => .rdRxCount
  | .rxWord0 => .rdRxWord0
  | .rxWord1 => .rdRxWord1
  | .rxValue => .rdRxValue
  | .rsvd13 => .rdRsvd 13#4
  | .rsvd14 => .rdRsvd 14#4
  | .rsvd15 => .rdRsvd 15#4

/-- The write rows of R74, their operands taken from DATA as R82 says. -/
def decodeWrite (r : Reg) (d : Word) : Instr :=
  match r with
  | .ctrl => .wrCtrl (dataChkEn d)
  | .cmd => decodeCommand (dataByte d)
  | .status => .wrStatus (dataClearErr d)
  | .crcData => .wrCrcData (dataByte d)
  | .crcValue => .wrCrcValue
  | .reqAddr => .wrReqAddr (dataByte d)
  | .txWord0 => .wrTxWord0
  | .txWord1 => .wrTxWord1
  | .rxData => .wrRxData (dataByte d)
  | .rxCount => .wrRxCount
  | .rxWord0 => .wrRxWord0
  | .rxWord1 => .wrRxWord1
  | .rxValue => .wrRxValue
  | .rsvd13 => .wrRsvd 13#4
  | .rsvd14 => .wrRsvd 14#4
  | .rsvd15 => .wrRsvd 15#4

/-- The decoder, total on 40-bit words: every word with RSV = 000 is a transaction (R74), every other is refused by
name (R76). -/
def decode (tw : TW) : Except DecodeRefusal Instr :=
  if twRsv tw = 0#3 then
    .ok (if twDir tw then decodeWrite (Reg.ofIndex (twWord tw)) (twData tw)
         else decodeRead (Reg.ofIndex (twWord tw)))
  else .error (.rsvNonzero (twRsv tw))

/-! ### The encoder -/

/-- A command write with OPCODE `op` and DATA[31:8] = 0 (R73). -/
def encodeCommand (op : Byte) : TW := mkTW true Reg.cmd.index (op.setWidth 32)

/-- The canonical transaction word of an instruction: its operands in the bits R82 gives them, 0 in every ignored bit. -/
def encode : Instr → TW
  | .rdCtrl => mkTW false Reg.ctrl.index 0#32
  | .rdCmd => mkTW false Reg.cmd.index 0#32
  | .rdStatus => mkTW false Reg.status.index 0#32
  | .rdCrcData => mkTW false Reg.crcData.index 0#32
  | .rdCrcValue => mkTW false Reg.crcValue.index 0#32
  | .rdReqAddr => mkTW false Reg.reqAddr.index 0#32
  | .rdTxWord0 => mkTW false Reg.txWord0.index 0#32
  | .rdTxWord1 => mkTW false Reg.txWord1.index 0#32
  | .rdRxData => mkTW false Reg.rxData.index 0#32
  | .rdRxCount => mkTW false Reg.rxCount.index 0#32
  | .rdRxWord0 => mkTW false Reg.rxWord0.index 0#32
  | .rdRxWord1 => mkTW false Reg.rxWord1.index 0#32
  | .rdRxValue => mkTW false Reg.rxValue.index 0#32
  | .rdRsvd w => mkTW false w 0#32
  | .wrCtrl e => mkTW true Reg.ctrl.index ((BitVec.ofBool e).setWidth 32)
  | .crcInit => encodeCommand 0x01#8
  | .buildRequest => encodeCommand 0x02#8
  | .validate => encodeCommand 0x03#8
  | .rxClear => encodeCommand 0x04#8
  | .cmdIllegal op => encodeCommand op
  | .wrStatus k => mkTW true Reg.status.index ((BitVec.ofBool k).setWidth 32 <<< 4)
  | .wrCrcData b => mkTW true Reg.crcData.index (b.setWidth 32)
  | .wrCrcValue => mkTW true Reg.crcValue.index 0#32
  | .wrReqAddr a => mkTW true Reg.reqAddr.index (a.setWidth 32)
  | .wrTxWord0 => mkTW true Reg.txWord0.index 0#32
  | .wrTxWord1 => mkTW true Reg.txWord1.index 0#32
  | .wrRxData b => mkTW true Reg.rxData.index (b.setWidth 32)
  | .wrRxCount => mkTW true Reg.rxCount.index 0#32
  | .wrRxWord0 => mkTW true Reg.rxWord0.index 0#32
  | .wrRxWord1 => mkTW true Reg.rxWord1.index 0#32
  | .wrRxValue => mkTW true Reg.rxValue.index 0#32
  | .wrRsvd w => mkTW true w 0#32

/-- The bits of a transaction word that R74 and R82 read for this instruction: the head byte, and the operand's bits
of DATA. Every other bit is ignored. -/
def significantBits : Instr → TW
  | .rdCtrl => 0xFF00000000#40
  | .rdCmd => 0xFF00000000#40
  | .rdStatus => 0xFF00000000#40
  | .rdCrcData => 0xFF00000000#40
  | .rdCrcValue => 0xFF00000000#40
  | .rdReqAddr => 0xFF00000000#40
  | .rdTxWord0 => 0xFF00000000#40
  | .rdTxWord1 => 0xFF00000000#40
  | .rdRxData => 0xFF00000000#40
  | .rdRxCount => 0xFF00000000#40
  | .rdRxWord0 => 0xFF00000000#40
  | .rdRxWord1 => 0xFF00000000#40
  | .rdRxValue => 0xFF00000000#40
  | .rdRsvd _ => 0xFF00000000#40
  | .wrCtrl _ => 0xFF00000001#40
  | .crcInit => 0xFF000000FF#40
  | .buildRequest => 0xFF000000FF#40
  | .validate => 0xFF000000FF#40
  | .rxClear => 0xFF000000FF#40
  | .cmdIllegal _ => 0xFF000000FF#40
  | .wrStatus _ => 0xFF00000010#40
  | .wrCrcData _ => 0xFF000000FF#40
  | .wrCrcValue => 0xFF00000000#40
  | .wrReqAddr _ => 0xFF000000FF#40
  | .wrTxWord0 => 0xFF00000000#40
  | .wrTxWord1 => 0xFF00000000#40
  | .wrRxData _ => 0xFF000000FF#40
  | .wrRxCount => 0xFF00000000#40
  | .wrRxWord0 => 0xFF00000000#40
  | .wrRxWord1 => 0xFF00000000#40
  | .wrRxValue => 0xFF00000000#40
  | .wrRsvd _ => 0xFF00000000#40

/-! ### The opcode table -/

/-- The mnemonic of 30_encoding.md R74, letter for letter. -/
def Instr.mnemonic : Instr → String
  | .rdCtrl => "RD_CTRL"
  | .rdCmd => "RD_CMD"
  | .rdStatus => "RD_STATUS"
  | .rdCrcData => "RD_CRC_DATA"
  | .rdCrcValue => "RD_CRC_VALUE"
  | .rdReqAddr => "RD_REQ_ADDR"
  | .rdTxWord0 => "RD_TX_WORD0"
  | .rdTxWord1 => "RD_TX_WORD1"
  | .rdRxData => "RD_RX_DATA"
  | .rdRxCount => "RD_RX_COUNT"
  | .rdRxWord0 => "RD_RX_WORD0"
  | .rdRxWord1 => "RD_RX_WORD1"
  | .rdRxValue => "RD_RX_VALUE"
  | .rdRsvd _ => "RD_RSVD"
  | .wrCtrl _ => "WR_CTRL"
  | .crcInit => "CRC_INIT"
  | .buildRequest => "BUILD_REQUEST"
  | .validate => "VALIDATE"
  | .rxClear => "RX_CLEAR"
  | .cmdIllegal _ => "CMD_ILLEGAL"
  | .wrStatus _ => "WR_STATUS"
  | .wrCrcData _ => "WR_CRC_DATA"
  | .wrCrcValue => "WR_CRC_VALUE"
  | .wrReqAddr _ => "WR_REQ_ADDR"
  | .wrTxWord0 => "WR_TX_WORD0"
  | .wrTxWord1 => "WR_TX_WORD1"
  | .wrRxData _ => "WR_RX_DATA"
  | .wrRxCount => "WR_RX_COUNT"
  | .wrRxWord0 => "WR_RX_WORD0"
  | .wrRxWord1 => "WR_RX_WORD1"
  | .wrRxValue => "WR_RX_VALUE"
  | .wrRsvd _ => "WR_RSVD"

/-- A row of opcode_table.json: a word belongs to it when its bits under `mask` are `pattern`. -/
structure OpcodeRow where
  mnemonic : String
  pattern : TW
  mask : TW
  deriving DecidableEq, Repr

/-- The word belongs to the row. -/
def OpcodeRow.covers (r : OpcodeRow) (tw : TW) : Bool := tw &&& r.mask == r.pattern

/-- The rows with DIR = 0. -/
def opcodeRowsRead : List OpcodeRow :=
  [⟨"RD_CTRL", 0x0000000000#40, 0xFF00000000#40⟩, ⟨"RD_CMD", 0x0100000000#40, 0xFF00000000#40⟩,
   ⟨"RD_STATUS", 0x0200000000#40, 0xFF00000000#40⟩, ⟨"RD_CRC_DATA", 0x0300000000#40, 0xFF00000000#40⟩,
   ⟨"RD_CRC_VALUE", 0x0400000000#40, 0xFF00000000#40⟩, ⟨"RD_REQ_ADDR", 0x0500000000#40, 0xFF00000000#40⟩,
   ⟨"RD_TX_WORD0", 0x0600000000#40, 0xFF00000000#40⟩, ⟨"RD_TX_WORD1", 0x0700000000#40, 0xFF00000000#40⟩,
   ⟨"RD_RX_DATA", 0x0800000000#40, 0xFF00000000#40⟩, ⟨"RD_RX_COUNT", 0x0900000000#40, 0xFF00000000#40⟩,
   ⟨"RD_RX_WORD0", 0x0A00000000#40, 0xFF00000000#40⟩, ⟨"RD_RX_WORD1", 0x0B00000000#40, 0xFF00000000#40⟩,
   ⟨"RD_RX_VALUE", 0x0C00000000#40, 0xFF00000000#40⟩, ⟨"RD_RSVD", 0x0D00000000#40, 0xFF00000000#40⟩,
   ⟨"RD_RSVD", 0x0E00000000#40, 0xFE00000000#40⟩]

/-- The rows of writes to CMD. -/
def opcodeRowsCommand : List OpcodeRow :=
  [⟨"CRC_INIT", 0x8100000001#40, 0xFF000000FF#40⟩, ⟨"BUILD_REQUEST", 0x8100000002#40, 0xFF000000FF#40⟩,
   ⟨"VALIDATE", 0x8100000003#40, 0xFF000000FF#40⟩, ⟨"RX_CLEAR", 0x8100000004#40, 0xFF000000FF#40⟩,
   ⟨"CMD_ILLEGAL", 0x8100000000#40, 0xFF000000FF#40⟩, ⟨"CMD_ILLEGAL", 0x8100000005#40, 0xFF000000FF#40⟩,
   ⟨"CMD_ILLEGAL", 0x8100000006#40, 0xFF000000FE#40⟩, ⟨"CMD_ILLEGAL", 0x8100000008#40, 0xFF000000F8#40⟩,
   ⟨"CMD_ILLEGAL", 0x8100000010#40, 0xFF000000F0#40⟩, ⟨"CMD_ILLEGAL", 0x8100000020#40, 0xFF000000E0#40⟩,
   ⟨"CMD_ILLEGAL", 0x8100000040#40, 0xFF000000C0#40⟩, ⟨"CMD_ILLEGAL", 0x8100000080#40, 0xFF00000080#40⟩]

/-- The rows of the other writes. -/
def opcodeRowsWrite : List OpcodeRow :=
  [⟨"WR_CTRL", 0x8000000000#40, 0xFF00000000#40⟩, ⟨"WR_STATUS", 0x8200000000#40, 0xFF00000000#40⟩,
   ⟨"WR_CRC_DATA", 0x8300000000#40, 0xFF00000000#40⟩, ⟨"WR_CRC_VALUE", 0x8400000000#40, 0xFF00000000#40⟩,
   ⟨"WR_REQ_ADDR", 0x8500000000#40, 0xFF00000000#40⟩, ⟨"WR_TX_WORD0", 0x8600000000#40, 0xFF00000000#40⟩,
   ⟨"WR_TX_WORD1", 0x8700000000#40, 0xFF00000000#40⟩, ⟨"WR_RX_DATA", 0x8800000000#40, 0xFF00000000#40⟩,
   ⟨"WR_RX_COUNT", 0x8900000000#40, 0xFF00000000#40⟩, ⟨"WR_RX_WORD0", 0x8A00000000#40, 0xFF00000000#40⟩,
   ⟨"WR_RX_WORD1", 0x8B00000000#40, 0xFF00000000#40⟩, ⟨"WR_RX_VALUE", 0x8C00000000#40, 0xFF00000000#40⟩,
   ⟨"WR_RSVD", 0x8D00000000#40, 0xFF00000000#40⟩, ⟨"WR_RSVD", 0x8E00000000#40, 0xFE00000000#40⟩]

/-- All 41 rows of opcode_table.json. The decoder does not read them; statements hold it against them. -/
def opcodeTable : List OpcodeRow := opcodeRowsRead ++ opcodeRowsCommand ++ opcodeRowsWrite

/-! ### The assembler (R78, R79) -/

/-- The word index a register operand names. -/
def RegName.toIndex : RegName → BitVec 4
  | .named r => r.index
  | .index w => w

/-- The transaction word of a line: DATA is the immediate of a `wr`, and 0 for an `rd` (R78). -/
def assemble : AsmLine → TW
  | .wr r imm => mkTW true r.toIndex imm
  | .rd r => mkTW false r.toIndex 0#32

/-- The line a pseudo-instruction stands for (R79). -/
def Pseudo.expand : Pseudo → AsmLine
  | .crcInit => .wr (.named .cmd) 0x01#32
  | .build => .wr (.named .cmd) 0x02#32
  | .validate => .wr (.named .cmd) 0x03#32
  | .rxClear => .wr (.named .cmd) 0x04#32
  | .crc b => .wr (.named .crcData) (b.setWidth 32)
  | .push b => .wr (.named .rxData) (b.setWidth 32)
  | .req a => .wr (.named .reqAddr) (a.setWidth 32)
  | .chkOn => .wr (.named .ctrl) 0x1#32
  | .chkOff => .wr (.named .ctrl) 0x0#32
  | .clrErr => .wr (.named .status) 0x10#32

/-! ### The host's numbering -/

/-- The `w` of an opcode table word as a transaction word: bits at and above `nbits` are 0, and a number of more than
40 bits is no transaction word (log entry 17). -/
def tableWord (nbits w : Nat) : Option TW :=
  if w % 2 ^ nbits < 2 ^ 40 then some (BitVec.ofNat 40 (w % 2 ^ nbits)) else none

/-- The instruction the decoder reads from an instruction whose bits are `w`. -/
def decodeTableWord (nbits w : Nat) : Option Instr :=
  match tableWord nbits w with
  | some tw =>
    match decode tw with
    | .ok i => some i
    | .error _ => none
  | none => none

end Sys2Proof
end

