-- ==== Sys2Proof/Machine/State.lean ====
section
/-! DEFINITION. The machine's state: the engine's record (10_state.md R20), the port's read data (30_encoding.md R71),
and the host side of the port (00_scope.md R9, R10; 10_state.md R21). Also the bus cycles the outside world can
present, and the reasons a step can stop. -/

namespace Sys2Proof.Machine

/-- The five results of validation (10_state.md R25, 60_exceptions.md R201). R20 allows the enumeration, so that the
codes 5 to 7 cannot arise (93_implementation_defined.md I6). -/
inductive Vres where
  | none
  | ok
  | truncatedFrame
  | unexpectedFunctionCode
  | checksumMismatch
  deriving DecidableEq, Repr

/-- The engine's complete state, element for element as 10_state.md R20 lists it. -/
structure Engine where
  /-- `ACC`: the streaming CRC accumulator. -/
  acc : Half
  /-- `CHKEN`: `CTRL.CRC_CHK_EN`. -/
  chken : Bool
  /-- `REQA`: the register address the next request is built for. -/
  reqa : Byte
  /-- `TXBUF[0..7]`: the last built request frame. -/
  txbuf : Vector Byte 8
  /-- `TXV`: `TXBUF` holds a frame built for the current `REQA`. -/
  txv : Bool
  /-- `RXBUF[0..6]`: the first 7 bytes received since the last clear. -/
  rxbuf : Vector Byte 7
  /-- `RXCNT`: the number of bytes received since the last clear, saturating at 255. -/
  rxcnt : Byte
  /-- `VRES`: the result of the last validation. -/
  vres : Vres
  /-- `CMDERR`: an illegal command was written. -/
  cmderr : Bool
  deriving DecidableEq, Repr

/-- The reset values (10_state.md R36). -/
def Engine.reset : Engine where
  acc := 0xFFFF#16
  chken := true
  reqa := 0x00#8
  txbuf := Vector.replicate 8 0x00#8
  txv := false
  rxbuf := Vector.replicate 7 0x00#8
  rxcnt := 0#8
  vres := .none
  cmderr := false

/-- The width of a host access before it reaches the port (20_memory.md R53). Only `word32` exists at the port; the
others are what a platform might present (93_implementation_defined.md I7). -/
inductive AccessSize where
  | word32
  | half16
  | byte8
  | byteEnabled
  deriving DecidableEq, Repr

/-- What an access does: `BusRead` or `BusWrite` with its datum (00_scope.md section 5). -/
inductive BusOp where
  | read
  | write (d : Word)
  deriving DecidableEq, Repr

/-- One input of the engine from outside: a port cycle written as its transaction word (30_encoding.md R72), a host
access by byte address (20_memory.md R51, R53), or `rst` asserted between transactions (70_reset_and_hazards.md R220). -/
inductive BusCycle where
  | word (tw : TW)
  | access (size : AccessSize) (addr : Word) (op : BusOp)
  | reset
  deriving DecidableEq, Repr

/-- The host's side of the port. DESIGN CHOICE (log entries 2 and 4): plain data that lets a step be a function of the
state alone. No engine rule reads it. -/
structure HostSide where
  /-- The cycles still to come, the next one first (R9, R59). -/
  pending : List BusCycle
  /-- The host's program index, one more with each transaction (10_state.md R21). -/
  index : Nat
  /-- The read data the host has received, the oldest first (R10). -/
  reads : List Word
  deriving DecidableEq, Repr

/-- The whole state of a run. -/
structure State where
  engine : Engine
  /-- `rdata` as the last transaction drove it: its read data, or 0 for a write (R71, R9). -/
  rdata : Word
  host : HostSide
  deriving DecidableEq, Repr

/-- The state right after reset: the engine at R36, and nothing issued yet. The three host fields and `rdata` are the
model's own (DESIGN CHOICE, log entries 2 and 4; unsafe for a statement that rests on their values). -/
def State.reset : State where
  engine := Engine.reset
  rdata := 0#32
  host := { pending := [], index := 0, reads := [] }

/-- The one fault the spec asks of a model. The engine itself never faults (60_exceptions.md R200), and no step
raises it. -/
inductive Fault where
  /-- Raised by the decoder of a recorded STATUS word that shows a VRES code of 5, 6 or 7
  (93_implementation_defined.md I6: "must `fault`"). Safe: the engine produces no such word. -/
  | vresNeverProduced (code : BitVec 3)
  deriving DecidableEq, Repr

/-- Why a step has no meaning for the cycle presented. The first is exec's; the others are the port's, raised before
any instruction runs. -/
inductive Refusal where
  /-- Raised by an arm of exec whose instruction has no meaning yet. Safe. No arm does. -/
  | notModelled (mnemonic : String)
  /-- Raised for a 40-bit word with RSV != 000: it spells no transaction (30_encoding.md R76, I8). Safe. -/
  | noTransaction (rsv : BitVec 3)
  /-- Raised for an access to the window that is not a whole word (20_memory.md R53, I7). Safe. -/
  | narrowAccess (size : AccessSize)
  /-- Raised for an access outside the window, whose decoding is the platform's (20_memory.md R51). Safe. -/
  | outsideWindow (addr : Word)
  deriving DecidableEq, Repr

end Sys2Proof.Machine
end

