-- ==== Sys2Proof/Machine/Flags.lean ====
section
/-! DEFINITION. The STATUS fields (10_state.md R25, R33): the numeric result codes, the STATUS word, and the decoder of
a recorded STATUS word (93_implementation_defined.md I6). -/

namespace Sys2Proof.Machine

/-- The code of a validation result in STATUS[2:0] (60_exceptions.md R201). -/
def Vres.code : Vres → BitVec 3
  | .none => 0#3
  | .ok => 1#3
  | .truncatedFrame => 2#3
  | .unexpectedFunctionCode => 3#3
  | .checksumMismatch => 4#3

/-- The result a code names; the codes 5 to 7 are never produced and fault (I6). -/
def vresOfCode (c : BitVec 3) : Except Fault Vres :=
  match c.toNat with
  | 0 => .ok .none
  | 1 => .ok .ok
  | 2 => .ok .truncatedFrame
  | 3 => .ok .unexpectedFunctionCode
  | 4 => .ok .checksumMismatch
  | _ => .error (.vresNeverProduced c)

/-- STATUS as read: `zext_32({CMDERR, TXV, VRES})` (10_state.md R25, 43_control.md R172). -/
def statusWord (e : Engine) : Word :=
  (BitVec.ofBool e.cmderr ++ (BitVec.ofBool e.txv ++ e.vres.code)).setWidth 32

/-- The fields of a STATUS word. -/
structure StatusFields where
  cmderr : Bool
  txv : Bool
  vres : Vres
  deriving DecidableEq, Repr

/-- Reads back a recorded STATUS word: CMD_ERR is bit 4, TX_VALID bit 3, VRES bits [2:0] (R25). Bits [31:5] are
reserved and ignored. -/
def decodeStatusWord (w : Word) : Except Fault StatusFields :=
  match vresOfCode (w.extractLsb' 0 3) with
  | .ok v => .ok { cmderr := w.getLsbD 4, txv := w.getLsbD 3, vres := v }
  | .error f => .error f

/-- A STATUS write with clear request `k`: CMD_ERR is write-1-to-clear (43_control.md R173). -/
def clearCmdErr (k : Bool) (e : Engine) : Engine :=
  { e with cmderr := if k then false else e.cmderr }

/-- The report of an illegal command: the sticky CMD_ERR (43_control.md R175, 60_exceptions.md R202). -/
def raiseCmdErr (e : Engine) : Engine := { e with cmderr := true }

end Sys2Proof.Machine
end

