-- ==== Sys2Proof/Machine/Operands.lean ====
section
/-! DEFINITION. How read data are assembled (10_state.md R23 to R31, 30_encoding.md R82): zero extension, sign
extension, and the little-endian lanes of the frame buffers (20_memory.md R65). The operands of writes are taken from
DATA in Sys2Proof/Decode.lean. -/

namespace Sys2Proof.Machine

/-- Four buffer bytes as one word, the first in the lowest lane (10_state.md R30, R31; 20_memory.md R65). -/
def packLanes (b0 b1 b2 b3 : Byte) : Word := b3 ++ (b2 ++ (b1 ++ b0))

/-- CTRL as read: `zext_32(CHKEN)` (43_control.md R171). -/
def ctrlWord (e : Engine) : Word := (BitVec.ofBool e.chken).setWidth 32

/-- CRC_VALUE as read: `zext_32(ACC)` (40_crc.md R106). -/
def crcValueWord (e : Engine) : Word := e.acc.setWidth 32

/-- REQ_ADDR as read: `zext_32(REQA)` (41_frame_build.md R122). -/
def reqAddrWord (e : Engine) : Word := e.reqa.setWidth 32

/-- TX_WORD0: `TXBUF[0..3]` (41_frame_build.md R124). -/
def txWord0 (e : Engine) : Word := packLanes e.txbuf[0] e.txbuf[1] e.txbuf[2] e.txbuf[3]

/-- TX_WORD1: `TXBUF[4..7]` (41_frame_build.md R125). -/
def txWord1 (e : Engine) : Word := packLanes e.txbuf[4] e.txbuf[5] e.txbuf[6] e.txbuf[7]

/-- RX_COUNT as read: `zext_32(RXCNT)` (42_frame_validate.md R145). -/
def rxCountWord (e : Engine) : Word := e.rxcnt.setWidth 32

/-- RX_WORD0: `RXBUF[0..3]` (42_frame_validate.md R146). -/
def rxWord0 (e : Engine) : Word := packLanes e.rxbuf[0] e.rxbuf[1] e.rxbuf[2] e.rxbuf[3]

/-- RX_WORD1: `RXBUF[4..6]`, and 0 in the top lane (42_frame_validate.md R147). -/
def rxWord1 (e : Engine) : Word := packLanes e.rxbuf[4] e.rxbuf[5] e.rxbuf[6] 0x00#8

/-- RX_VALUE: the big-endian data value, sign-extended (42_frame_validate.md R148). -/
def rxValueWord (e : Engine) : Word := (e.rxbuf[3] ++ e.rxbuf[4] : Half).signExtend 32

/-- Every word of the window as a read returns it (10_state.md R23): write-only and reserved words read 0. -/
def readRegister (r : Reg) (e : Engine) : Word :=
  match r with
  | .ctrl => ctrlWord e
  | .cmd => 0#32
  | .status => statusWord e
  | .crcData => 0#32
  | .crcValue => crcValueWord e
  | .reqAddr => reqAddrWord e
  | .txWord0 => txWord0 e
  | .txWord1 => txWord1 e
  | .rxData => 0#32
  | .rxCount => rxCountWord e
  | .rxWord0 => rxWord0 e
  | .rxWord1 => rxWord1 e
  | .rxValue => rxValueWord e
  | .rsvd13 => 0#32
  | .rsvd14 => 0#32
  | .rsvd15 => 0#32

end Sys2Proof.Machine
end

