-- ==== Sys2Proof/Machine/Ops.lean ====
section
/-! DEFINITION. The operations the transactions share: the CRC (40_crc.md), the request frame (41_frame_build.md), the
receive buffer and validation (42_frame_validate.md), how a transaction completes (20_memory.md R57, 30_encoding.md
R71), and reset (70_reset_and_hazards.md R220). The engine has no trap entry and no return (60_exceptions.md R206), so
there is no such operation: the errors it records are VRES and CMD_ERR. -/

namespace Sys2Proof.Machine

/-! ### The CRC function (R6, R100, R101) -/

/-- The CRC initial value (R6). -/
def crcInitValue : Half := 0xFFFF#16

/-- The reflected polynomial (R6). -/
def crcPoly : Half := 0xA001#16

/-- One of the eight iterations of R100: the test reads bit 0 before the logical shift. -/
def crcBit (a : Half) : Half := if a.getLsbD 0 then (a >>> 1) ^^^ crcPoly else a >>> 1

/-- `crc_step(a, b)` (R100). -/
def crcStep (a : Half) (b : Byte) : Half := Nat.repeat crcBit 8 (a ^^^ b.setWidth 16)

/-- The fold of `crcStep` from an accumulator. -/
def crcFrom (a : Half) (s : List Byte) : Half := s.foldl crcStep a

/-- `crc16(s)` (R101): from 0xFFFF, with no final XOR. -/
def crc16 (s : List Byte) : Half := crcFrom crcInitValue s

/-- The low byte of a CRC, the first of its trailer (20_memory.md R55). -/
def crcLo (c : Half) : Byte := c.extractLsb' 0 8

/-- The high byte of a CRC, the second of its trailer. -/
def crcHi (c : Half) : Byte := c.extractLsb' 8 8

/-! ### The request frame (30_encoding.md R80, 41_frame_build.md R120) -/

/-- The slave id of every request (R6). -/
def slaveId : Byte := 0x01#8

/-- The function code built and expected (R6). -/
def readFunction : Byte := 0x03#8

/-- The six header bytes of the request for register address `a`: addresses and counts are big-endian
(20_memory.md R56). -/
def requestHeader (a : Byte) : List Byte := [slaveId, readFunction, 0x00#8, a, 0x00#8, 0x01#8]

/-- `build_frame(a)` (R120). -/
def buildFrame (a : Byte) : Vector Byte 8 :=
  #v[slaveId, readFunction, 0x00#8, a, 0x00#8, 0x01#8, crcLo (crc16 (requestHeader a)), crcHi (crc16 (requestHeader a))]

/-! ### Validation (42_frame_validate.md R143) -/

/-- The length of a single-register response (R6). -/
def responseLength : Nat := 7

/-- The five bytes under the response's CRC (R143, 90_conflicts.md C2). -/
def responseBody (buf : Vector Byte 7) : List Byte := [buf[0], buf[1], buf[2], buf[3], buf[4]]

/-- `validate(buf, n, chk)`: length, then function code, then CRC; the first that fails decides (R143, R203). -/
def validate (buf : Vector Byte 7) (n : Byte) (chk : Bool) : Vres :=
  if n.toNat ≠ responseLength then .truncatedFrame
  else if buf[1] ≠ readFunction then .unexpectedFunctionCode
  else if chk ∧ (buf[5] ≠ crcLo (crc16 (responseBody buf)) ∨ buf[6] ≠ crcHi (crc16 (responseBody buf))) then
    .checksumMismatch
  else .ok

/-! ### What the writes do to the engine -/

/-- A CTRL write (43_control.md R170). -/
def setChken (c : Bool) (e : Engine) : Engine := { e with chken := c }

/-- CMD CRC_INIT (40_crc.md R104). -/
def crcRestart (e : Engine) : Engine := { e with acc := crcInitValue }

/-- A CRC_DATA write (40_crc.md R105). -/
def crcFeed (b : Byte) (e : Engine) : Engine := { e with acc := crcStep e.acc b }

/-- A REQ_ADDR write: the frame becomes stale and stays (41_frame_build.md R121). -/
def setReqAddr (a : Byte) (e : Engine) : Engine := { e with reqa := a, txv := false }

/-- CMD BUILD_REQUEST (41_frame_build.md R123). -/
def buildRequest (e : Engine) : Engine := { e with txbuf := buildFrame e.reqa, txv := true }

/-- The receive buffer with `b` stored at index `n`, where there is such an index (42_frame_validate.md R141). -/
def rxStore (buf : Vector Byte 7) (n : Byte) (b : Byte) : Vector Byte 7 :=
  if h : n.toNat < 7 then buf.set n.toNat b h else buf

/-- The receive count after one more byte, saturating and computed without wrap (R141). -/
def rxCountNext (n : Byte) : Byte := BitVec.ofNat 8 (min (n.toNat + 1) 255)

/-- An RX_DATA write (42_frame_validate.md R141). -/
def rxPush (b : Byte) (e : Engine) : Engine :=
  { e with rxbuf := rxStore e.rxbuf e.rxcnt b, rxcnt := rxCountNext e.rxcnt, vres := .none }

/-- CMD RX_CLEAR (42_frame_validate.md R142). -/
def rxClear (e : Engine) : Engine := { e with rxbuf := Vector.replicate 7 0x00#8, rxcnt := 0#8, vres := .none }

/-- CMD VALIDATE (42_frame_validate.md R144). -/
def runValidate (e : Engine) : Engine := { e with vres := validate e.rxbuf e.rxcnt e.chken }

/-! ### How a transaction completes -/

/-- A read completes: its data appear on `rdata` and reach the host, and the engine is as before (20_memory.md R57,
R58; 00_scope.md R9, R10). -/
def completeRead (v : Word) (s : State) : State :=
  { s with rdata := v, host := { s.host with reads := s.host.reads ++ [v] } }

/-- A write completes: the engine is `e`, and `rdata` is 0 (R57, R71, R9). -/
def completeWrite (e : Engine) (s : State) : State := { s with engine := e, rdata := 0#32 }

/-- The shape of every read: the data come from the state before the transaction (R57). -/
def readTransaction (f : Engine → Word) (s : State) : Host.Outcome State Fault Refusal :=
  .next (completeRead (f s.engine) s)

/-- The shape of every write: all state writes take effect together (R57). -/
def writeTransaction (f : Engine → Engine) (s : State) : Host.Outcome State Fault Refusal :=
  .next (completeWrite (f s.engine) s)

/-! ### Reset -/

/-- `rst`: every element of the engine at its reset value (R220). The host's side and `rdata` are no state of the engine
and stay (DESIGN CHOICE, log entry 8; unsafe for a statement about `rdata` after a reset). -/
def applyReset (s : State) : State := { s with engine := Engine.reset }

end Sys2Proof.Machine
end

