-- ==== Sys2Proof/Machine/Control.lean ====
section
/-! DEFINITION. The meanings of the control, status, illegal-command and reserved-word transactions (43_control.md R170
to R177). -/

namespace Sys2Proof.Machine

/-- WR_CTRL (R170): VRES is neither cleared nor judged again. -/
def execWrCtrl (c : Bool) (s : State) : Host.Outcome State Fault Refusal := writeTransaction (setChken c) s

/-- RD_CTRL (R171). -/
def execRdCtrl (s : State) : Host.Outcome State Fault Refusal := readTransaction (readRegister .ctrl) s

/-- RD_STATUS (R172): the read clears nothing. -/
def execRdStatus (s : State) : Host.Outcome State Fault Refusal := readTransaction (readRegister .status) s

/-- WR_STATUS (R173). -/
def execWrStatus (k : Bool) (s : State) : Host.Outcome State Fault Refusal := writeTransaction (clearCmdErr k) s

/-- CMD_ILLEGAL (R175): the opcode is not recorded, and there is no trap. -/
def execCmdIllegal (_op : Byte) (s : State) : Host.Outcome State Fault Refusal := writeTransaction raiseCmdErr s

/-- RD_CMD (R176): write-only, reads 0. -/
def execRdCmd (s : State) : Host.Outcome State Fault Refusal := readTransaction (readRegister .cmd) s

/-- RD_RSVD (R177): reads 0 in revision 1 (log entry 16). -/
def execRdRsvd (_w : BitVec 4) (s : State) : Host.Outcome State Fault Refusal := readTransaction (fun _ => 0#32) s

/-- WR_RSVD (R177): no state change, nothing flagged. -/
def execWrRsvd (_w : BitVec 4) (s : State) : Host.Outcome State Fault Refusal := writeTransaction id s

end Sys2Proof.Machine
end

