-- ==== Sys2Proof/Machine/Crc.lean ====
section
/-! DEFINITION. The meanings of the CRC generator's transactions (40_crc.md R104 to R108). -/

namespace Sys2Proof.Machine

/-- CRC_INIT (R104). -/
def execCrcInit (s : State) : Host.Outcome State Fault Refusal := writeTransaction crcRestart s

/-- WR_CRC_DATA (R105). -/
def execWrCrcData (b : Byte) (s : State) : Host.Outcome State Fault Refusal := writeTransaction (crcFeed b) s

/-- RD_CRC_VALUE (R106). -/
def execRdCrcValue (s : State) : Host.Outcome State Fault Refusal := readTransaction (readRegister .crcValue) s

/-- WR_CRC_VALUE (R107): read-only, no state changes. -/
def execWrCrcValue (s : State) : Host.Outcome State Fault Refusal := writeTransaction id s

/-- RD_CRC_DATA (R108): write-only, reads 0. -/
def execRdCrcData (s : State) : Host.Outcome State Fault Refusal := readTransaction (readRegister .crcData) s

end Sys2Proof.Machine
end

