-- ==== Sys2Proof/Machine/FrameBuild.lean ====
section
/-! DEFINITION. The meanings of the request frame builder's transactions (41_frame_build.md R121 to R126). -/

namespace Sys2Proof.Machine

/-- WR_REQ_ADDR (R121). -/
def execWrReqAddr (a : Byte) (s : State) : Host.Outcome State Fault Refusal := writeTransaction (setReqAddr a) s

/-- RD_REQ_ADDR (R122). -/
def execRdReqAddr (s : State) : Host.Outcome State Fault Refusal := readTransaction (readRegister .reqAddr) s

/-- BUILD_REQUEST (R123). -/
def execBuildRequest (s : State) : Host.Outcome State Fault Refusal := writeTransaction buildRequest s

/-- RD_TX_WORD0 (R124): readable whatever TX_VALID is. -/
def execRdTxWord0 (s : State) : Host.Outcome State Fault Refusal := readTransaction (readRegister .txWord0) s

/-- RD_TX_WORD1 (R125). -/
def execRdTxWord1 (s : State) : Host.Outcome State Fault Refusal := readTransaction (readRegister .txWord1) s

/-- WR_TX_WORD0 (R126): read-only, no state changes. -/
def execWrTxWord0 (s : State) : Host.Outcome State Fault Refusal := writeTransaction id s

/-- WR_TX_WORD1 (R126): read-only, no state changes. -/
def execWrTxWord1 (s : State) : Host.Outcome State Fault Refusal := writeTransaction id s

end Sys2Proof.Machine
end

