-- ==== Sys2Proof/Machine/FrameValidate.lean ====
section
/-! DEFINITION. The meanings of the response frame validator's transactions (42_frame_validate.md R141 to R150). -/

namespace Sys2Proof.Machine

/-- WR_RX_DATA (R141). -/
def execWrRxData (b : Byte) (s : State) : Host.Outcome State Fault Refusal := writeTransaction (rxPush b) s

/-- RX_CLEAR (R142). -/
def execRxClear (s : State) : Host.Outcome State Fault Refusal := writeTransaction rxClear s

/-- VALIDATE (R144): a failed check is recorded in VRES and is no trap (60_exceptions.md R200). -/
def execValidate (s : State) : Host.Outcome State Fault Refusal := writeTransaction runValidate s

/-- RD_RX_COUNT (R145). -/
def execRdRxCount (s : State) : Host.Outcome State Fault Refusal := readTransaction (readRegister .rxCount) s

/-- RD_RX_WORD0 (R146). -/
def execRdRxWord0 (s : State) : Host.Outcome State Fault Refusal := readTransaction (readRegister .rxWord0) s

/-- RD_RX_WORD1 (R147). -/
def execRdRxWord1 (s : State) : Host.Outcome State Fault Refusal := readTransaction (readRegister .rxWord1) s

/-- RD_RX_VALUE (R148): defined whatever VRES is. -/
def execRdRxValue (s : State) : Host.Outcome State Fault Refusal := readTransaction (readRegister .rxValue) s

/-- WR_RX_COUNT (R149): read-only, no state changes. -/
def execWrRxCount (s : State) : Host.Outcome State Fault Refusal := writeTransaction id s

/-- WR_RX_WORD0 (R149): read-only, no state changes. -/
def execWrRxWord0 (s : State) : Host.Outcome State Fault Refusal := writeTransaction id s

/-- WR_RX_WORD1 (R149): read-only, no state changes. -/
def execWrRxWord1 (s : State) : Host.Outcome State Fault Refusal := writeTransaction id s

/-- WR_RX_VALUE (R149): read-only, no state changes. -/
def execWrRxValue (s : State) : Host.Outcome State Fault Refusal := writeTransaction id s

/-- RD_RX_DATA (R150): write-only, reads 0 and pops nothing. -/
def execRdRxData (s : State) : Host.Outcome State Fault Refusal := readTransaction (readRegister .rxData) s

end Sys2Proof.Machine
end

