-- ==== Sys2Proof/Machine/Dispatch.lean ====
section
/-! DEFINITION. exec: one arm for each constructor of Instr, one direct call of its meaning. -/

namespace Sys2Proof.Machine

def exec (i : Instr) (s : State) : Host.Outcome State Fault Refusal :=
  match i with
  | .rdCtrl => Sys2Proof.Machine.execRdCtrl s
  | .rdCmd => Sys2Proof.Machine.execRdCmd s
  | .rdStatus => Sys2Proof.Machine.execRdStatus s
  | .rdCrcData => Sys2Proof.Machine.execRdCrcData s
  | .rdCrcValue => Sys2Proof.Machine.execRdCrcValue s
  | .rdReqAddr => Sys2Proof.Machine.execRdReqAddr s
  | .rdTxWord0 => Sys2Proof.Machine.execRdTxWord0 s
  | .rdTxWord1 => Sys2Proof.Machine.execRdTxWord1 s
  | .rdRxData => Sys2Proof.Machine.execRdRxData s
  | .rdRxCount => Sys2Proof.Machine.execRdRxCount s
  | .rdRxWord0 => Sys2Proof.Machine.execRdRxWord0 s
  | .rdRxWord1 => Sys2Proof.Machine.execRdRxWord1 s
  | .rdRxValue => Sys2Proof.Machine.execRdRxValue s
  | .rdRsvd w => Sys2Proof.Machine.execRdRsvd w s
  | .wrCtrl e => Sys2Proof.Machine.execWrCtrl e s
  | .crcInit => Sys2Proof.Machine.execCrcInit s
  | .buildRequest => Sys2Proof.Machine.execBuildRequest s
  | .validate => Sys2Proof.Machine.execValidate s
  | .rxClear => Sys2Proof.Machine.execRxClear s
  | .cmdIllegal op => Sys2Proof.Machine.execCmdIllegal op s
  | .wrStatus k => Sys2Proof.Machine.execWrStatus k s
  | .wrCrcData b => Sys2Proof.Machine.execWrCrcData b s
  | .wrCrcValue => Sys2Proof.Machine.execWrCrcValue s
  | .wrReqAddr a => Sys2Proof.Machine.execWrReqAddr a s
  | .wrTxWord0 => Sys2Proof.Machine.execWrTxWord0 s
  | .wrTxWord1 => Sys2Proof.Machine.execWrTxWord1 s
  | .wrRxData b => Sys2Proof.Machine.execWrRxData b s
  | .wrRxCount => Sys2Proof.Machine.execWrRxCount s
  | .wrRxWord0 => Sys2Proof.Machine.execWrRxWord0 s
  | .wrRxWord1 => Sys2Proof.Machine.execWrRxWord1 s
  | .wrRxValue => Sys2Proof.Machine.execWrRxValue s
  | .wrRsvd w => Sys2Proof.Machine.execWrRsvd w s

end Sys2Proof.Machine
end

