-- ==== Sys2Proof/Config.lean ====
section
/-! DEFINITION. The two parameters the spec leaves OPEN (00_scope.md R6, R7; 92_eei_decisions.md D3, D23). They have no
body, so no proof can see a value of either. -/

namespace Sys2Proof.Config

/-- Bits [31:6] of `CRC_BASE`. DESIGN CHOICE (log entry 1): the parameter is held as its upper 26 bits, so that R7's
alignment to 64 bytes holds by construction. Safe: any aligned base is one of its values. -/
opaque crcBaseBlock : BitVec 26

/-- `CRC_BASE`: the byte address of the register window, aligned to 64 bytes (R7, R50). -/
def crcBase : Word := crcBaseBlock ++ 0#6

/-- The bus protocols R7 gives as examples, and any other. -/
inductive BusProtocol where
  | validReady
  | apb
  | other (label : String)
  deriving DecidableEq, Repr, Inhabited

/-- `BUS_PROTOCOL` (R7, D23): a parameter that no rule reads, and so no definition of the model does. -/
opaque busProtocol : BusProtocol

end Sys2Proof.Config
end

