-- ==== Sys2Proof/Machine/Port.lean ====
section
/-! DEFINITION. How a bus cycle reaches the engine: the register window at CRC_BASE (20_memory.md R50, R51, R53), the
transaction word of an access (30_encoding.md R71, R72), and what the port refuses. -/

namespace Sys2Proof.Machine

/-- The address lies in the window: `CRC_BASE <= a < CRC_BASE + 64` (R51). -/
def inWindow (base a : Word) : Bool := decide (base.toNat ≤ a.toNat) && decide (a.toNat < base.toNat + 64)

/-- The word index an address reaches: `(a - CRC_BASE)[5:2]`; bits [1:0] are ignored (R51, R53). -/
def wordIndex (base a : Word) : BitVec 4 := (a - base).extractLsb' 2 4

/-- The transaction word of a 32-bit access to word `w`; a read carries DATA = 0 (R71, R72). -/
def busOpWord (w : BitVec 4) : BusOp → TW
  | .read => mkTW false w 0#32
  | .write d => mkTW true w d

/-- What the engine's port sees of a bus cycle. -/
inductive PortEvent where
  | transaction (tw : TW)
  | reset
  | refused (r : Refusal)
  deriving DecidableEq, Repr

/-- A host access by byte address. Outside the window the engine is not selected (R51, log entry 5); inside it only
32-bit accesses exist at the port (R53, log entry 6). -/
def presentAccess (base : Word) (size : AccessSize) (a : Word) (op : BusOp) : PortEvent :=
  if inWindow base a then
    match size with
    | .word32 => .transaction (busOpWord (wordIndex base a) op)
    | .half16 => .refused (.narrowAccess .half16)
    | .byte8 => .refused (.narrowAccess .byte8)
    | .byteEnabled => .refused (.narrowAccess .byteEnabled)
  else .refused (.outsideWindow a)

/-- What the port sees of a cycle, with the window at `base`. -/
def present (base : Word) : BusCycle → PortEvent
  | .word tw => .transaction tw
  | .access size a op => presentAccess base size a op
  | .reset => .reset

/-- The state once its first cycle, a transaction, is issued: the host's program index advances by one
(10_state.md R21). -/
def issueTransaction (rest : List BusCycle) (s : State) : State :=
  { s with host := { s.host with pending := rest, index := s.host.index + 1 } }

/-- The state once its first cycle, a reset, is taken: a reset is no transaction, so the index stays (log entry 8). -/
def takeReset (rest : List BusCycle) (s : State) : State :=
  { s with host := { s.host with pending := rest } }

end Sys2Proof.Machine
end

