-- ==== Sys2Proof/Machine/Step.lean ====
section
/-! DEFINITION. One step: the first pending bus cycle (00_scope.md R9, 20_memory.md R57, R59). -/

namespace Sys2Proof.Machine

/-- A transaction word presented to the port: decoded and executed, or refused by name (30_encoding.md R76). -/
def stepWord (tw : TW) (rest : List BusCycle) (s : State) : Host.Outcome State Fault Refusal :=
  match decode tw with
  | .ok i => exec i (issueTransaction rest s)
  | .error (.rsvNonzero rsv) => .refused (.noTransaction rsv)

/-- One step. With nothing pending no cycle is presented, and the engine takes no step of its own (R9; DESIGN CHOICE,
log entry 3: the step then changes nothing). -/
def step (s : State) : Host.Outcome State Fault Refusal :=
  match s.host.pending with
  | [] => .next s
  | c :: rest =>
    match present Config.crcBase c with
    | .transaction tw => stepWord tw rest s
    | .reset => .next (applyReset (takeReset rest s))
    | .refused r => .refused r

/-- `s` with the transaction word `w` issued next: the step reads the first pending cycle, so the word is put there
(log entry 2). -/
def State.withFetchWord (s : State) (nbits w : Nat) : State :=
  { s with host := { s.host with pending := .word (BitVec.ofNat 40 (w % 2 ^ nbits)) :: s.host.pending } }

end Sys2Proof.Machine
end

