-- ==== Sys2Proof/Safety.lean ====
section
/-! DEFINITION. What claims are stated in: runs of several steps, which transaction a step performs, the engine's
invariant, and the source's own contract for a response (90_conflicts.md C2, C3). -/

namespace Sys2Proof.Machine

/-! ### Runs -/

/-- `n` steps, stopping at the first that gives no next state. -/
def runSteps : Nat → State → Host.Outcome State Fault Refusal
  | 0, s => .next s
  | n + 1, s =>
    match step s with
    | .next t => runSteps n t
    | .fault f => .fault f
    | .refused r => .refused r

/-- The state an outcome goes on with, if any. -/
def nextState : Host.Outcome State Fault Refusal → Option State
  | .next t => some t
  | .fault _ => none
  | .refused _ => none

/-- `s` with the cycles `cs` to come before those already pending. -/
def State.withPending (cs : List BusCycle) (s : State) : State :=
  { s with host := { s.host with pending := cs ++ s.host.pending } }

/-- The cycles of a sequence of transactions, each as its canonical transaction word. -/
def cyclesOf (is : List Instr) : List BusCycle := is.map fun i => .word (encode i)

/-- The next step of `s` performs the transaction `i`: the first pending cycle reaches the port as a word that decodes
to it. -/
def Performs (s : State) (i : Instr) : Prop :=
  ∃ c rest tw, s.host.pending = c :: rest ∧ present Config.crcBase c = .transaction tw ∧ decode tw = .ok i

/-- The next step of `s` is a reset. -/
def TakesReset (s : State) : Prop := ∃ rest, s.host.pending = .reset :: rest

/-! ### The engine's invariant -/

/-- What holds of the engine after reset and after every transaction. -/
structure Engine.Inv (e : Engine) : Prop where
  /-- A frame marked valid is the frame of the current address (41_frame_build.md R127). -/
  txValid : e.txv = true → e.txbuf = buildFrame e.reqa
  /-- Buffer bytes not received yet read 0x00 (42_frame_validate.md R140). -/
  rxTail : ∀ i : Fin 7, e.rxcnt.toNat ≤ i.val → e.rxbuf[i.val] = 0x00#8
  /-- VRES is NONE or the judgement of the buffer as it stands, under one of the two check settings (10_state.md R25,
  42_frame_validate.md R144). -/
  vresFresh : e.vres = .none ∨ ∃ chk, e.vres = validate e.rxbuf e.rxcnt chk

/-! ### The source's contract (42_frame_validate.md R143, R152) -/

/-- The errors of the source's `validate_response` (60_exceptions.md R201). -/
inductive ProtocolError where
  | truncatedFrame
  | unexpectedFunctionCode
  | checksumMismatch
  deriving DecidableEq, Repr

/-- The code the engine reports for the source's result (R201). -/
def vresOfContract : Except ProtocolError Unit → Vres
  | .ok () => .ok
  | .error .truncatedFrame => .truncatedFrame
  | .error .unexpectedFunctionCode => .unexpectedFunctionCode
  | .error .checksumMismatch => .checksumMismatch

/-- The source's `validate_response(raw)` on a byte sequence of any length, as R143 quotes it: it looks at the sequence
itself, not at the engine's buffer and count. DEDUCED (log entry 18). -/
def validateResponse (raw : List Byte) : Except ProtocolError Unit :=
  match raw with
  | [b0, b1, b2, b3, b4, b5, b6] =>
    if b1 ≠ 0x03#8 then .error .unexpectedFunctionCode
    else if crc16 [b0, b1, b2, b3, b4] ≠ (b6 ++ b5 : Half) then .error .checksumMismatch
    else .ok ()
  | _ => .error .truncatedFrame

end Sys2Proof.Machine
end

