-- ==== Sys2Proof/Certificates/Slice0/Obligations.lean ====
section
/-! DEFINITION. The statements about the model, each a `def Obligations.<Name> : Prop`. Transaction words are written
from the spec's own encodings (a head byte, then DATA), not through the encoder, except where the encoder is the
subject. -/

open Sys2Proof Sys2Proof.Machine

/-- `s` after a read that returned `v`: `rdata` and the host's read data (00_scope.md R9, R10; fields of the model's
own, log entry 4), and nothing else. -/
def Sys2Proof.Claims.readOnly (v : Word) (s : State) : State :=
  { s with rdata := v, host := { s.host with reads := s.host.reads ++ [v] } }

/-- `s` after a write that left the engine at `e`: the engine, `rdata` = 0 (30_encoding.md R71), and nothing else. -/
def Sys2Proof.Claims.written (e : Engine) (s : State) : State := { s with engine := e, rdata := 0 }

/-- The transaction word of a 32-bit access to word `w` (30_encoding.md R72): DIR, RSV = 000, W, DATA. -/
def Sys2Proof.Claims.accessWord (w : BitVec 4) : BusOp → TW
  | .read => 0x0#4 ++ (w ++ 0#32)
  | .write d => 0x8#4 ++ (w ++ d)

/-- `s` with the transaction word `tw` as its first pending cycle, before `rest`. -/
def Sys2Proof.Claims.replaceFirst (tw : TW) (rest : List BusCycle) (s : State) : State :=
  { s with host := { s.host with pending := .word tw :: rest } }

/-- The bytes a sequence of transactions writes to CRC_DATA, in order (40_crc.md R110). -/
def Sys2Proof.Claims.streamed : List Instr → List Byte :=
  List.filterMap fun i => match i with
    | .wrCrcData b => some b
    | _ => none

/-- One iteration of 40_crc.md R100 on numbers: the test of bit 0, the halving, the exclusive-or. -/
def Sys2Proof.Claims.bitOnNat (n : Nat) : Nat := if n % 2 = 1 then (n / 2) ^^^ 0xA001 else n / 2

open Sys2Proof.Claims

/-! ### Reset, steps and the port -/

/-- 10_state.md R36: every element, and every register view, after reset. -/
def Obligations.ResetHoldsTheSpecValues : Prop :=
  State.reset.engine =
      { acc := 0xFFFF, chken := true, reqa := 0x00, txbuf := #v[0, 0, 0, 0, 0, 0, 0, 0], txv := false,
        rxbuf := #v[0, 0, 0, 0, 0, 0, 0], rxcnt := 0, vres := .none, cmderr := false } ∧
    ∀ w : BitVec 4, ∃ i t, decode (0x0#4 ++ (w ++ 0#32)) = .ok i ∧ exec i State.reset = .next t ∧
      t.rdata = if w = 0 then 0x00000001 else if w = 4 then 0x0000FFFF else 0x00000000

/-- 70_reset_and_hazards.md R220: `rst` puts every element of the engine at its reset value, whatever the state. That
the cycles after it stay pending is the model's host side (log entries 2 and 8). -/
def Obligations.ResetCycleRestoresTheEngine : Prop :=
  ∀ s rest, s.host.pending = .reset :: rest →
    ∃ t, step s = .next t ∧ t.engine = State.reset.engine ∧ t.host.pending = rest

/-- 70_reset_and_hazards.md R220: a transaction that overlaps reset is completed before it or not performed at all.
Both orders are runs, and both leave the engine at its reset state. That the later cycles are still pending after the
reset is the model's choice (log entry 8; the list is the model's form, log entry 2). -/
def Obligations.ResetOverlapEndsInResetEitherWay : Prop :=
  ∀ (s : State) tw i rest, decode tw = .ok i →
    (∃ t, runSteps 2 (s.withPending (.word tw :: .reset :: rest)) = .next t ∧ t.engine = State.reset.engine ∧
      t.host.pending = rest ++ s.host.pending) ∧
    ∃ t, runSteps 1 (s.withPending (.reset :: rest)) = .next t ∧ t.engine = State.reset.engine ∧
      t.host.pending = rest ++ s.host.pending

/-- 00_scope.md R9: the engine takes no step on its own. That a step with nothing pending answers the same state is the
model's choice (log entry 3). -/
def Obligations.IdlePortChangesNothing : Prop := ∀ s, s.host.pending = [] → step s = .next s

/-- A step runs the transaction its first pending word decodes to, with that word taken from the host's list and the
host's index moved on by one (00_scope.md R9, 10_state.md R21, 20_memory.md R59; the list and the index as fields of
State are the model's form, log entry 2). -/
def Obligations.StepRunsTheDecodedTransaction : Prop :=
  ∀ s tw rest i, s.host.pending = .word tw :: rest → decode tw = .ok i →
    step s = exec i { s with host := { s.host with pending := rest, index := s.host.index + 1 } }

/-- 20_memory.md R51: an access in the window acts as the transaction on word `(a - CRC_BASE)[5:2]`. -/
def Obligations.AccessReachesTheWordOfItsAddress : Prop :=
  ∀ s rest a op, Config.crcBase.toNat ≤ a.toNat → a.toNat < Config.crcBase.toNat + 64 →
    s.host.pending = .access .word32 a op :: rest →
    step s = step (replaceFirst (accessWord ((a - Config.crcBase).extractLsb' 2 4) op) rest s)

/-- 20_memory.md R53: address bits [1:0] are ignored, for a read and for a write, and an access that is not a whole
word is refused. The addresses are all those of the window: base, word `w`, byte `lo`. -/
def Obligations.LowAddressBitsAreIgnoredAndNarrowAccessesRefused : Prop :=
  ∀ (s : State) (rest : List BusCycle) (w : BitVec 4) (lo : BitVec 2) (op : BusOp) (size : AccessSize),
    let a : Word := Config.crcBase + (0#26 ++ (w ++ lo))
    s.host.pending = .access size a op :: rest →
    (size = .word32 → step s = step (replaceFirst (accessWord w op) rest s)) ∧
    (size ≠ .word32 → step s = .refused (.narrowAccess size))

/-- 30_encoding.md R72, R76: a word with RSV != 000 spells no transaction and is refused by name; 20_memory.md R51: an
address outside the window is not the engine's (that it is refused is log entry 5). -/
def Obligations.PortRefusesWhatIsNoTransaction : Prop :=
  (∀ s tw rest, tw.extractLsb' 36 3 ≠ 0#3 → s.host.pending = .word tw :: rest →
    step s = .refused (.noTransaction (tw.extractLsb' 36 3))) ∧
  ∀ s size a op rest, ¬ (Config.crcBase.toNat ≤ a.toNat ∧ a.toNat < Config.crcBase.toNat + 64) →
    s.host.pending = .access size a op :: rest → step s = .refused (.outsideWindow a)

/-- 60_exceptions.md R200, 20_memory.md R57: every transaction completes, from every state, and no step faults. The
first clause is of every term of `Instr`: that `exec` answers a next state also for a term no word decodes to is the
model's choice (log entry 19). The pending list and the index are the model's form (log entry 2). -/
def Obligations.EveryTransactionCompletes : Prop :=
  (∀ i s, ∃ t, exec i s = .next t ∧ t.host.pending = s.host.pending ∧ t.host.index = s.host.index) ∧
  (∀ s tw rest, tw.extractLsb' 36 3 = 0#3 → s.host.pending = .word tw :: rest →
    ∃ t, step s = .next t ∧ t.host.pending = rest ∧ t.host.index = s.host.index + 1) ∧
  ∀ s f, step s ≠ .fault f

/-! ### Encodings -/

/-- Decoding an encoded well-formed transaction gives it back, with every operand at every value. -/
def Obligations.DecodeOfEncodeIsTheTransaction : Prop := ∀ i : Instr, i.WellFormed → decode (encode i) = .ok i

/-- The other direction: a word that decodes to `i` is `i`'s canonical word but for the bits R82 ignores, and what the
decoder reads is well formed. -/
def Obligations.EncodeIsTheWordWithIgnoredBitsCleared : Prop :=
  ∀ tw i, decode tw = .ok i → i.WellFormed ∧ encode i = tw &&& significantBits i

/-- 30_encoding.md R74: every TW with RSV = 000 selects exactly one row of the table, and the decoder reads from it a
transaction with that row's mnemonic; no other TW selects a row. -/
def Obligations.EveryWordSelectsOneOpcodeRow : Prop :=
  (∀ tw : TW, tw.extractLsb' 36 3 = 0#3 →
    ∃ r i, opcodeTable.filter (fun r => tw &&& r.mask == r.pattern) = [r] ∧ decode tw = .ok i ∧
      i.mnemonic = r.mnemonic) ∧
  ∀ tw : TW, tw.extractLsb' 36 3 ≠ 0#3 → opcodeTable.filter (fun r => tw &&& r.mask == r.pattern) = []

/-- Words written out in the spec decode to the transactions it names. -/
def Obligations.SpecWordsDecodeAsNamed : Prop :=
  decode 0x8100000001 = .ok .crcInit ∧ decode 0x8300000031 = .ok (.wrCrcData 0x31) ∧
  decode 0x0400000000 = .ok .rdCrcValue ∧ decode 0x8500000005 = .ok (.wrReqAddr 0x05) ∧
  decode 0x8100000002 = .ok .buildRequest ∧ decode 0x0700000000 = .ok .rdTxWord1 ∧
  decode 0x880000007B = .ok (.wrRxData 0x7B) ∧ decode 0x8100000003 = .ok .validate ∧
  decode 0x8200000010 = .ok (.wrStatus true) ∧ decode 0x8000000000 = .ok (.wrCtrl false) ∧
  decode 0x8100000100 = .ok (.cmdIllegal 0x00) ∧ decode 0x9100000001 = .error (.rsvNonzero 1)

/-- 30_encoding.md R73 and the opcodes of R75: DATA[7:0] alone selects the command. -/
def Obligations.CommandIsSelectedByLowByteAlone : Prop :=
  ∀ (hi : BitVec 24) (op : Byte), decode (0x81#8 ++ (hi ++ op)) =
    .ok (if op = 0x01#8 then .crcInit else if op = 0x02#8 then .buildRequest else if op = 0x03#8 then .validate
      else if op = 0x04#8 then .rxClear else .cmdIllegal op)

/-- 30_encoding.md R79: the pseudo-instructions' transaction words. -/
def Obligations.PseudoInstructionsExpandAsTabulated : Prop :=
  assemble Pseudo.crcInit.expand = 0x8100000001 ∧ assemble Pseudo.build.expand = 0x8100000002 ∧
  assemble Pseudo.validate.expand = 0x8100000003 ∧ assemble Pseudo.rxClear.expand = 0x8100000004 ∧
  (∀ b : Byte, assemble (Pseudo.crc b).expand = 0x83000000#32 ++ b) ∧
  (∀ b : Byte, assemble (Pseudo.push b).expand = 0x88000000#32 ++ b) ∧
  (∀ a : Byte, assemble (Pseudo.req a).expand = 0x85000000#32 ++ a) ∧
  assemble Pseudo.chkOn.expand = 0x8000000001 ∧ assemble Pseudo.chkOff.expand = 0x8000000000 ∧
  assemble Pseudo.clrErr.expand = 0x8200000010

/-! ### The CRC generator -/

/-- 40_crc.md R100: the step on the numbers, eight iterations of test, halving and exclusive-or. -/
def Obligations.CrcStepIsEightIterationsOnNumbers : Prop :=
  ∀ (a : Half) (b : Byte), (crcStep a b).toNat = bitOnNat^[8] (a.toNat ^^^ b.toNat)

/-- 40_crc.md R101, R102: the fold from 0xFFFF, and the empty sequence. -/
def Obligations.CrcFoldsBytesFromAllOnes : Prop :=
  crc16 [] = 0xFFFF ∧ ∀ s b, crc16 (s ++ [b]) = crcStep (crc16 s) b

/-- 40_crc.md R103: the byte-at-a-time form a lookup table of 256 entries gives is identical to R100's step. -/
def Obligations.TableDrivenCrcStepIsIdentical : Prop :=
  ∀ (a : Half) (b : Byte), crcStep a b = (a >>> 8) ^^^ crcStep 0 ((a ^^^ b.setWidth 16).extractLsb' 0 8)

/-- 40_crc.md R111 (the spec's own derivation): a sequence with its trailer appended, low byte first, has CRC 0. -/
def Obligations.CrcOfSequenceWithTrailerIsZero : Prop :=
  ∀ m : List Byte, crc16 (m ++ [(crc16 m).extractLsb' 0 8, (crc16 m).extractLsb' 8 8]) = 0x0000

/-- 40_crc.md R104. -/
def Obligations.CrcInitRestartsTheAccumulator : Prop :=
  (∀ hi : BitVec 24, decode (0x81#8 ++ (hi ++ 0x01#8)) = .ok .crcInit) ∧
  ∀ s, exec .crcInit s = .next (written { s.engine with acc := 0xFFFF } s)

/-- 40_crc.md R105. -/
def Obligations.CrcDataWriteStepsTheAccumulator : Prop :=
  (∀ d : Word, decode (0x83#8 ++ d) = .ok (.wrCrcData (d.extractLsb' 0 8))) ∧
  ∀ b s, exec (.wrCrcData b) s = .next (written { s.engine with acc := crcStep s.engine.acc b } s)

/-- 40_crc.md R106. -/
def Obligations.CrcValueReadsTheAccumulator : Prop :=
  (∀ d : Word, decode (0x04#8 ++ d) = .ok .rdCrcValue) ∧
  ∀ s, exec .rdCrcValue s = .next (readOnly (0#16 ++ s.engine.acc) s)

/-- 40_crc.md R110 (the spec's own derivation): after CRC_INIT, or after reset, and any transactions but another
CRC_INIT, the accumulator is the CRC of the bytes written to CRC_DATA, whatever else is interleaved. That the cycles
after the reset are still there to run, and the remaining list with them, is the model's choice (log entry 8; the list
is the model's form, log entry 2). -/
def Obligations.StreamedBytesGiveTheirCrc : Prop :=
  ∀ (s : State) (is : List Instr), (∀ i ∈ is, i.WellFormed) → .crcInit ∉ is →
    (∃ t, runSteps (is.length + 1) (s.withPending (cyclesOf (.crcInit :: is))) = .next t ∧
      t.engine.acc = crc16 (streamed is) ∧ t.host.pending = s.host.pending) ∧
    ∃ t, runSteps (is.length + 1) (s.withPending (.reset :: cyclesOf is)) = .next t ∧
      t.engine.acc = crc16 (streamed is) ∧ t.host.pending = s.host.pending

/-- 40_crc.md R109, its last sentence: the only writers of ACC. -/
def Obligations.OnlyCrcTransactionsAndResetWriteAcc : Prop :=
  ∀ s t, step s = .next t → t.engine.acc ≠ s.engine.acc →
    Performs s .crcInit ∨ (∃ b, Performs s (.wrCrcData b)) ∨ TakesReset s

/-- 40_crc.md R109: no transaction but the CRC generator's own reads ACC: from a state with another accumulator it
answers the same state but for that accumulator. The terms no word decodes to are covered too (log entry 19). -/
def Obligations.FrameTransactionsNeverReadAcc : Prop :=
  ∀ i s t a, i ≠ .crcInit → (∀ b, i ≠ .wrCrcData b) → i ≠ .rdCrcValue → exec i s = .next t →
    t.engine.acc = s.engine.acc ∧
    exec i { s with engine := { s.engine with acc := a } } = .next { t with engine := { t.engine with acc := a } }

/-! ### The request frame builder -/

/-- 41_frame_build.md R120 and the layout of 30_encoding.md R80, for every register address. -/
def Obligations.BuiltFrameHasTheRequestLayout : Prop :=
  ∀ a : Byte, buildFrame a =
    #v[0x01, 0x03, 0x00, a, 0x00, 0x01, (crc16 [0x01, 0x03, 0x00, a, 0x00, 0x01]).extractLsb' 0 8,
      (crc16 [0x01, 0x03, 0x00, a, 0x00, 0x01]).extractLsb' 8 8]

/-- 41_frame_build.md R121, R122. -/
def Obligations.ReqAddrIsStoredAndReadBack : Prop :=
  (∀ d : Word, decode (0x85#8 ++ d) = .ok (.wrReqAddr (d.extractLsb' 0 8)) ∧ decode (0x05#8 ++ d) = .ok .rdReqAddr) ∧
  (∀ a s, exec (.wrReqAddr a) s = .next (written { s.engine with reqa := a, txv := false } s)) ∧
  ∀ s, exec .rdReqAddr s = .next (readOnly (0#24 ++ s.engine.reqa) s)

/-- 41_frame_build.md R123. -/
def Obligations.BuildRequestFillsTheTransmitBuffer : Prop :=
  (∀ hi : BitVec 24, decode (0x81#8 ++ (hi ++ 0x02#8)) = .ok .buildRequest) ∧
  ∀ s, exec .buildRequest s = .next (written { s.engine with txbuf := buildFrame s.engine.reqa, txv := true } s)

/-- 41_frame_build.md R124, R125: the two words, little-endian by lane, whatever TX_VALID is. -/
def Obligations.TxWordsReadTheTransmitBuffer : Prop :=
  (∀ d : Word, decode (0x06#8 ++ d) = .ok .rdTxWord0 ∧ decode (0x07#8 ++ d) = .ok .rdTxWord1) ∧
  ∀ s, exec .rdTxWord0 s = .next (readOnly
      (s.engine.txbuf[3] ++ (s.engine.txbuf[2] ++ (s.engine.txbuf[1] ++ s.engine.txbuf[0]))) s) ∧
    exec .rdTxWord1 s = .next (readOnly
      (s.engine.txbuf[7] ++ (s.engine.txbuf[6] ++ (s.engine.txbuf[5] ++ s.engine.txbuf[4]))) s)

/-- 41_frame_build.md R125, corner cases, and R123's example in general: after a build TX_WORD0 holds the address above
`0x000301`, and TX_WORD1 the CRC of the header above `0x0100`. -/
def Obligations.TxWordsAfterBuildHoldAddressAndTrailer : Prop :=
  ∀ s : State, ∃ t u v, exec .buildRequest s = .next t ∧ exec .rdTxWord0 t = .next u ∧ exec .rdTxWord1 t = .next v ∧
    u.rdata.extractLsb' 0 24 = 0x000301#24 ∧ u.rdata.extractLsb' 24 8 = s.engine.reqa ∧
    v.rdata.extractLsb' 0 16 = 0x0100#16 ∧
    v.rdata.extractLsb' 16 16 = crc16 [0x01, 0x03, 0x00, s.engine.reqa, 0x00, 0x01]

/-! ### The response frame validator -/

/-- 42_frame_validate.md R141: the byte goes to the index the count had, where there is one; the count saturates; VRES
becomes NONE. -/
def Obligations.RxDataWriteAppendsAByte : Prop :=
  (∀ d : Word, decode (0x88#8 ++ d) = .ok (.wrRxData (d.extractLsb' 0 8))) ∧
  ∀ b s, ∃ buf n, exec (.wrRxData b) s =
      .next (written { s.engine with rxbuf := buf, rxcnt := n, vres := .none } s) ∧
    n.toNat = min (s.engine.rxcnt.toNat + 1) 255 ∧
    ∀ i : Fin 7, buf[i.val] = if i.val = s.engine.rxcnt.toNat then b else s.engine.rxbuf[i.val]

/-- 42_frame_validate.md R142. -/
def Obligations.RxClearEmptiesTheReceiveBuffer : Prop :=
  (∀ hi : BitVec 24, decode (0x81#8 ++ (hi ++ 0x04#8)) = .ok .rxClear) ∧
  ∀ s, exec .rxClear s = .next (written
    { s.engine with rxbuf := #v[0x00, 0x00, 0x00, 0x00, 0x00, 0x00, 0x00], rxcnt := 0, vres := .none } s)

/-- 42_frame_validate.md R144: VRES alone is written, from the buffer, the count and the check setting. -/
def Obligations.ValidateJudgesTheBufferIntoVres : Prop :=
  (∀ hi : BitVec 24, decode (0x81#8 ++ (hi ++ 0x03#8)) = .ok .validate) ∧
  ∀ s, exec .validate s = .next (written
    { s.engine with vres := Machine.validate s.engine.rxbuf s.engine.rxcnt s.engine.chken } s)

/-- 42_frame_validate.md R143, 60_exceptions.md R203: when each result is given. The trailer is compared as one
little-endian value, and the five bytes before it are under the CRC. -/
def Obligations.ValidationResultsFollowTheCheckOrder : Prop :=
  ∀ (buf : Vector Byte 7) (n : Byte) (chk : Bool),
    let trailer : Half := buf[6] ++ buf[5]
    let crc : Half := crc16 [buf[0], buf[1], buf[2], buf[3], buf[4]]
    (Machine.validate buf n chk = .truncatedFrame ↔ n ≠ 7#8) ∧
    (Machine.validate buf n chk = .unexpectedFunctionCode ↔ n = 7#8 ∧ buf[1] ≠ 0x03#8) ∧
    (Machine.validate buf n chk = .checksumMismatch ↔ n = 7#8 ∧ buf[1] = 0x03#8 ∧ chk = true ∧ trailer ≠ crc) ∧
    (Machine.validate buf n chk = .ok ↔ n = 7#8 ∧ buf[1] = 0x03#8 ∧ (chk = true → trailer = crc)) ∧
    Machine.validate buf n chk ≠ .none

/-- 42_frame_validate.md R145 to R147. -/
def Obligations.RxWordsReadCountAndBuffer : Prop :=
  (∀ d : Word, decode (0x09#8 ++ d) = .ok .rdRxCount ∧ decode (0x0A#8 ++ d) = .ok .rdRxWord0 ∧
    decode (0x0B#8 ++ d) = .ok .rdRxWord1) ∧
  ∀ s, exec .rdRxCount s = .next (readOnly (0#24 ++ s.engine.rxcnt) s) ∧
    exec .rdRxWord0 s = .next (readOnly
      (s.engine.rxbuf[3] ++ (s.engine.rxbuf[2] ++ (s.engine.rxbuf[1] ++ s.engine.rxbuf[0]))) s) ∧
    exec .rdRxWord1 s = .next (readOnly
      (0x00#8 ++ (s.engine.rxbuf[6] ++ (s.engine.rxbuf[5] ++ s.engine.rxbuf[4]))) s)

/-- 42_frame_validate.md R148: RX_VALUE is the signed big-endian value of the two data bytes, whatever VRES is. -/
def Obligations.RxValueIsTheSignedBigEndianValue : Prop :=
  (∀ d : Word, decode (0x0C#8 ++ d) = .ok .rdRxValue) ∧
  ∀ s, ∃ v : Word, exec .rdRxValue s = .next (readOnly v s) ∧
    v.toInt = s.engine.rxbuf[3].toInt * 256 + s.engine.rxbuf[4].toNat

/-- 10_state.md R30, R31; 20_memory.md R65: byte `i` of a buffer is in bits `[8*(i mod 4)+7 : 8*(i mod 4)]` of word
`i / 4` of its pair. -/
def Obligations.BufferBytesSitInTheirLanes : Prop :=
  (∀ (s : State) (i : Fin 8), ∃ t, exec (if i.val < 4 then .rdTxWord0 else .rdTxWord1) s = .next t ∧
    t.rdata.extractLsb' (8 * (i.val % 4)) 8 = s.engine.txbuf[i.val]) ∧
  ∀ (s : State) (i : Fin 7), ∃ t, exec (if i.val < 4 then .rdRxWord0 else .rdRxWord1) s = .next t ∧
    t.rdata.extractLsb' (8 * (i.val % 4)) 8 = s.engine.rxbuf[i.val]

/-- 42_frame_validate.md R141, corner cases: no step but RX_CLEAR and reset lowers the count, so that past 7 it never
comes back to 7. -/
def Obligations.RxCountFallsOnlyByClearOrReset : Prop :=
  ∀ s t, step s = .next t → ¬ Performs s .rxClear → ¬ TakesReset s →
    s.engine.rxcnt.toNat ≤ t.engine.rxcnt.toNat

/-- 42_frame_validate.md R140 (the spec's own derivation): after RX_CLEAR and the bytes `raw`, of any number, the count
is their number, saturated, the buffer their first seven, zero-filled, and nothing but the receive side has changed.
The pending list is the model's form (log entry 2). -/
def Obligations.PushedBytesFillTheBuffer : Prop :=
  ∀ (s : State) (raw : List Byte), ∃ t,
    runSteps (raw.length + 1) (s.withPending (cyclesOf (.rxClear :: raw.map .wrRxData))) = .next t ∧
    t.engine.rxcnt.toNat = min raw.length 255 ∧ (∀ i : Fin 7, t.engine.rxbuf[i.val] = raw.getD i.val 0x00) ∧
    t.engine = { s.engine with rxbuf := t.engine.rxbuf, rxcnt := t.engine.rxcnt, vres := .none } ∧
    t.host.pending = s.host.pending

/-- 42_frame_validate.md R152 (the spec's own derivation): with the check on, RX_CLEAR, the bytes `raw`, of any number,
and VALIDATE leave in VRES the code of the source's `validate_response(raw)`. The source's function is DEDUCED from the
words R143 quotes (log entry 18); the pending list is the model's form (log entry 2). -/
def Obligations.ValidateMeetsTheSourceContract : Prop :=
  ∀ (s : State) (raw : List Byte), s.engine.chken = true → ∃ t,
    runSteps (raw.length + 2) (s.withPending (cyclesOf (.rxClear :: (raw.map .wrRxData ++ [.validate])))) = .next t ∧
    t.engine.vres = vresOfContract (validateResponse raw) ∧ t.host.pending = s.host.pending

/-- 42_frame_validate.md R140, R152 (the spec's own derivations), for a sequence that starts at a reset: the bytes `raw`
fill the buffer and the count, VALIDATE gives the code of the source's `validate_response(raw)`, and every other element
is at its reset value. The source's function is DEDUCED (log entry 18); that the cycles after the reset are still there
to run is the model's choice (log entry 8; the list is the model's form, log entry 2). -/
def Obligations.ValidateAfterResetMeetsTheSourceContract : Prop :=
  ∀ (s : State) (raw : List Byte), ∃ t,
    runSteps (raw.length + 2) (s.withPending (.reset :: cyclesOf (raw.map .wrRxData ++ [.validate]))) = .next t ∧
    t.engine.rxcnt.toNat = min raw.length 255 ∧ (∀ i : Fin 7, t.engine.rxbuf[i.val] = raw.getD i.val 0x00) ∧
    t.engine = { State.reset.engine with
      rxbuf := t.engine.rxbuf, rxcnt := t.engine.rxcnt, vres := vresOfContract (validateResponse raw) }

/-! ### Control, status, and the words without effect -/

/-- 43_control.md R170, R171: only bit 0 counts; VRES stays. -/
def Obligations.CtrlHoldsTheCheckEnable : Prop :=
  (∀ d : Word, decode (0x80#8 ++ d) = .ok (.wrCtrl (d.getLsbD 0)) ∧ decode (0x00#8 ++ d) = .ok .rdCtrl) ∧
  (∀ c s, exec (.wrCtrl c) s = .next (written { s.engine with chken := c } s)) ∧
  ∀ s, exec .rdCtrl s = .next (readOnly (if s.engine.chken then 1 else 0) s)

/-- 43_control.md R172 with the codes of 60_exceptions.md R201. -/
def Obligations.StatusReadsTheThreeFlags : Prop :=
  (∀ d : Word, decode (0x02#8 ++ d) = .ok .rdStatus) ∧
  ∀ s, ∃ v : Word, exec .rdStatus s = .next (readOnly v s) ∧
    v.toNat = (if s.engine.cmderr then 16 else 0) + (if s.engine.txv then 8 else 0) +
      match s.engine.vres with
        | .none => 0
        | .ok => 1
        | .truncatedFrame => 2
        | .unexpectedFunctionCode => 3
        | .checksumMismatch => 4

/-- 43_control.md R173: bit 4 written 1 clears CMD_ERR; nothing else can be written. -/
def Obligations.StatusWriteClearsOnlyCmdErr : Prop :=
  (∀ d : Word, decode (0x82#8 ++ d) = .ok (.wrStatus (d.getLsbD 4))) ∧
  ∀ s, exec (.wrStatus true) s = .next (written { s.engine with cmderr := false } s) ∧
    exec (.wrStatus false) s = .next (written s.engine s)

/-- 43_control.md R175: every opcode but 0x01 to 0x04 sets CMD_ERR and changes no other state. That the term
`cmdIllegal` of 0x01 to 0x04, which no word decodes to, does the same is the model's choice (log entry 19). -/
def Obligations.IllegalCommandSetsOnlyCmdErr : Prop :=
  (∀ (hi : BitVec 24) (op : Byte), op = 0 ∨ 5 ≤ op.toNat → decode (0x81#8 ++ (hi ++ op)) = .ok (.cmdIllegal op)) ∧
  ∀ op s, exec (.cmdIllegal op) s = .next (written { s.engine with cmderr := true } s)

/-- 40_crc.md R107, 41_frame_build.md R126, 42_frame_validate.md R149: a write of a read-only word changes no state and
sets no error. -/
def Obligations.ReadOnlyWordsIgnoreWrites : Prop :=
  (∀ d : Word, decode (0x84#8 ++ d) = .ok .wrCrcValue ∧ decode (0x86#8 ++ d) = .ok .wrTxWord0 ∧
    decode (0x87#8 ++ d) = .ok .wrTxWord1 ∧ decode (0x89#8 ++ d) = .ok .wrRxCount ∧
    decode (0x8A#8 ++ d) = .ok .wrRxWord0 ∧ decode (0x8B#8 ++ d) = .ok .wrRxWord1 ∧
    decode (0x8C#8 ++ d) = .ok .wrRxValue) ∧
  ∀ s, ∀ i ∈ [Instr.wrCrcValue, .wrTxWord0, .wrTxWord1, .wrRxCount, .wrRxWord0, .wrRxWord1, .wrRxValue],
    exec i s = .next (written s.engine s)

/-- 40_crc.md R108, 42_frame_validate.md R150, 43_control.md R176: a read of a write-only word returns 0 and changes no
state. -/
def Obligations.WriteOnlyWordsReadZero : Prop :=
  (∀ d : Word, decode (0x03#8 ++ d) = .ok .rdCrcData ∧ decode (0x08#8 ++ d) = .ok .rdRxData ∧
    decode (0x01#8 ++ d) = .ok .rdCmd) ∧
  ∀ s, ∀ i ∈ [Instr.rdCrcData, .rdRxData, .rdCmd], exec i s = .next (readOnly 0x00000000 s)

/-- 43_control.md R177, of revision 1 (93_implementation_defined.md I9): words 13 to 15 read 0 and ignore writes. That
`rdRsvd` and `wrRsvd` of words 0 to 12, terms no word decodes to, do the same is the model's choice (log entry 19). -/
def Obligations.ReservedWordsReadZeroAndIgnoreWrites : Prop :=
  (∀ (w : BitVec 4) (d : Word), 13 ≤ w.toNat →
    decode (0x0#4 ++ (w ++ d)) = .ok (.rdRsvd w) ∧ decode (0x8#4 ++ (w ++ d)) = .ok (.wrRsvd w)) ∧
  ∀ w s, exec (.rdRsvd w) s = .next (readOnly 0x00000000 s) ∧ exec (.wrRsvd w) s = .next (written s.engine s)

/-- 93_implementation_defined.md I6, 10_state.md R25: a STATUS word the engine gives reads back as its flags, and a
recorded word with a VRES code of 5, 6 or 7 faults. -/
def Obligations.RecordedStatusWordsReadBack : Prop :=
  (∀ s, ∃ t, exec .rdStatus s = .next t ∧ decodeStatusWord t.rdata =
    .ok { cmderr := s.engine.cmderr, txv := s.engine.txv, vres := s.engine.vres }) ∧
  ∀ w : Word, 5 ≤ (w.extractLsb' 0 3).toNat →
    decodeStatusWord w = .error (.vresNeverProduced (w.extractLsb' 0 3))

/-! ### The whole machine -/

/-- 10_state.md R33: what writes each flag, over every step. -/
def Obligations.FlagsChangeOnlyByTheirWriters : Prop :=
  ∀ s t, step s = .next t →
    (t.engine.vres ≠ s.engine.vres → Performs s .validate ∨
      (t.engine.vres = .none ∧ ((∃ b, Performs s (.wrRxData b)) ∨ Performs s .rxClear ∨ TakesReset s))) ∧
    (t.engine.txv ≠ s.engine.txv → (t.engine.txv = true ∧ Performs s .buildRequest) ∨
      (t.engine.txv = false ∧ ((∃ a, Performs s (.wrReqAddr a)) ∨ TakesReset s))) ∧
    (t.engine.cmderr ≠ s.engine.cmderr → (t.engine.cmderr = true ∧ ∃ op, Performs s (.cmdIllegal op)) ∨
      (t.engine.cmderr = false ∧ (Performs s (.wrStatus true) ∨ TakesReset s)))

/-- What writes each register that is no flag, over every step (43_control.md R170, 41_frame_build.md R121, R123, R127,
10_state.md R34, 42_frame_validate.md R141, R142). -/
def Obligations.RegistersChangeOnlyByTheirWriters : Prop :=
  ∀ s t, step s = .next t →
    (t.engine.chken ≠ s.engine.chken → (∃ c, Performs s (.wrCtrl c)) ∨ TakesReset s) ∧
    (t.engine.reqa ≠ s.engine.reqa → (∃ a, Performs s (.wrReqAddr a)) ∨ TakesReset s) ∧
    (t.engine.txbuf ≠ s.engine.txbuf → Performs s .buildRequest ∨ TakesReset s) ∧
    (t.engine.rxbuf ≠ s.engine.rxbuf ∨ t.engine.rxcnt ≠ s.engine.rxcnt →
      (∃ b, Performs s (.wrRxData b)) ∨ Performs s .rxClear ∨ TakesReset s)

/-- 20_memory.md R58: every read leaves the engine as it was and returns the same data again; a repeated CTRL or
REQ_ADDR write leaves the same engine. -/
def Obligations.ReadsAndPlainWritesAreIdempotent : Prop :=
  (∀ (w : BitVec 4) (d : Word) (s : State), ∃ i t u, decode (0x0#4 ++ (w ++ d)) = .ok i ∧ exec i s = .next t ∧
    t.engine = s.engine ∧ exec i t = .next u ∧ u.engine = s.engine ∧ u.rdata = t.rdata) ∧
  ∀ (d : Word) (s : State), ∀ w ∈ [0#4, 5#4], ∃ i t u, decode (0x8#4 ++ (w ++ d)) = .ok i ∧ exec i s = .next t ∧
    exec i t = .next u ∧ u.engine = t.engine

/-- The engine's invariant holds right after reset. -/
def Obligations.ResetMeetsTheEngineInvariant : Prop := State.reset.engine.Inv

/-- Every step keeps the engine's invariant: a valid frame is the current address's (41_frame_build.md R127), bytes not
received read 0x00 (42_frame_validate.md R140), and VRES never describes another buffer than the one that stands
(10_state.md R25). -/
def Obligations.EveryStepKeepsTheEngineInvariant : Prop :=
  ∀ s t : State, s.engine.Inv → step s = .next t → t.engine.Inv
end

