-- ==== Sys2Proof/Laws/Decode.lean ====
section
/-! SUPPORT. The fields of a transaction word put together by `mkTW`, the decoder on such a word, and the register
map's two directions. -/

namespace Sys2Proof

/-- Each bit of a word put together from its fields. -/
theorem getLsbD_mkTW (dir : Bool) (w : BitVec 4) (d : Word) (i : Nat) :
    (mkTW dir w d).getLsbD i =
      if i < 32 then d.getLsbD i else if i < 36 then w.getLsbD (i - 32) else decide (i = 39) && dir := by
  have h : (mkTW dir w d).getLsbD i =
      (BitVec.ofBool dir ++ (0#3 ++ (w ++ d)) : BitVec (1 + (3 + (4 + 32)))).getLsbD i := rfl
  rw [h, BitVec.getLsbD_append, BitVec.getLsbD_append, BitVec.getLsbD_append, BitVec.getLsbD_ofBool]
  clear h
  split_ifs <;> simp_all <;> grind

@[simp] theorem twDir_mkTW (dir : Bool) (w : BitVec 4) (d : Word) : twDir (mkTW dir w d) = dir := by
  simp only [twDir, getLsbD_mkTW]
  simp

@[simp] theorem twRsv_mkTW (dir : Bool) (w : BitVec 4) (d : Word) : twRsv (mkTW dir w d) = 0#3 := by
  ext i hi
  simp only [twRsv, BitVec.getElem_extractLsb', getLsbD_mkTW]
  grind

@[simp] theorem twWord_mkTW (dir : Bool) (w : BitVec 4) (d : Word) : twWord (mkTW dir w d) = w := by
  ext i hi
  simp only [twWord, BitVec.getElem_extractLsb', getLsbD_mkTW]
  grind

@[simp] theorem twData_mkTW (dir : Bool) (w : BitVec 4) (d : Word) : twData (mkTW dir w d) = d := by
  ext i hi
  simp only [twData, BitVec.getElem_extractLsb', getLsbD_mkTW]
  grind

/-- A word put together from its fields decodes as its fields say. -/
@[simp] theorem decode_mkTW (dir : Bool) (w : BitVec 4) (d : Word) :
    decode (mkTW dir w d) = .ok (if dir then decodeWrite (Reg.ofIndex w) d else decodeRead (Reg.ofIndex w)) := by
  simp [decode]

/-- A word with RSV = 000 is put together from its fields. -/
theorem mkTW_fields (tw : TW) (h : twRsv tw = 0#3) : mkTW (twDir tw) (twWord tw) (twData tw) = tw := by
  have hr : ∀ j < 3, tw.getLsbD (36 + j) = false := by
    intro j hj
    have := congrArg (fun v : BitVec 3 => v.getLsbD j) h
    simpa [twRsv, BitVec.getLsbD_extractLsb', hj] using this
  apply BitVec.eq_of_getLsbD_eq
  intro i hi
  rw [getLsbD_mkTW, twDir, twWord, twData, BitVec.getLsbD_extractLsb', BitVec.getLsbD_extractLsb']
  by_cases h36 : i < 36
  · grind
  · by_cases h39 : i = 39
    · simp [h39]
    · have := hr (i - 36) (by omega)
      grind

/-- A read word written as its head digit, word index and DATA. -/
theorem append_eq_mkTW_false (w : BitVec 4) (d : Word) : (0x0#4 ++ (w ++ d) : TW) = mkTW false w d := by
  apply BitVec.eq_of_getLsbD_eq
  intro i hi
  have h : (0x0#4 ++ (w ++ d) : TW).getLsbD i = (0x0#4 ++ (w ++ d) : BitVec (4 + (4 + 32))).getLsbD i := rfl
  rw [h, getLsbD_mkTW, BitVec.getLsbD_append, BitVec.getLsbD_append]
  clear h
  grind

/-- A write word written as its head digit, word index and DATA. -/
theorem append_eq_mkTW_true (w : BitVec 4) (d : Word) : (0x8#4 ++ (w ++ d) : TW) = mkTW true w d := by
  apply BitVec.eq_of_getLsbD_eq
  intro i hi
  have h : (0x8#4 ++ (w ++ d) : TW).getLsbD i = (0x8#4 ++ (w ++ d) : BitVec (4 + (4 + 32))).getLsbD i := rfl
  have h8 : ∀ j < 4, (0x8#4).getLsbD j = decide (j = 3) := by decide
  rw [h, getLsbD_mkTW, BitVec.getLsbD_append, BitVec.getLsbD_append]
  clear h
  by_cases h36 : i < 36
  · grind
  · rw [if_neg (by omega), h8 _ (by omega), if_neg (by omega), if_neg h36]
    simp only [Bool.and_true, decide_eq_decide]
    omega

/-- A word written as its head byte and DATA, the head byte being a direction and a word index. -/
theorem head_append_eq_mkTW (dir : Bool) (w : BitVec 4) (d : Word) :
    ((BitVec.ofBool dir ++ (0#3 ++ w) : Byte) ++ d : TW) = mkTW dir w d := by
  apply BitVec.eq_of_getLsbD_eq
  intro i hi
  have h : ((BitVec.ofBool dir ++ (0#3 ++ w) : Byte) ++ d : TW).getLsbD i =
      ((BitVec.ofBool dir ++ (0#3 ++ w) : BitVec (1 + (3 + 4))) ++ d : BitVec (1 + (3 + 4) + 32)).getLsbD i := rfl
  rw [h, getLsbD_mkTW, BitVec.getLsbD_append, BitVec.getLsbD_append, BitVec.getLsbD_append, BitVec.getLsbD_ofBool]
  clear h
  split_ifs <;> simp_all <;> grind

@[simp] theorem ofIndex_index (r : Reg) : Reg.ofIndex r.index = r := by
  cases r <;> rfl

@[simp] theorem index_ofIndex (w : BitVec 4) : (Reg.ofIndex w).index = w := by
  revert w; decide

@[simp] theorem dataByte_setWidth (b : Byte) : dataByte (b.setWidth 32) = b := by
  ext i hi
  simp [dataByte, BitVec.getElem_extractLsb', show i < 32 by omega,
    BitVec.getLsbD_eq_getElem hi]

/-- An opcode outside R75's four is illegal, and decodes to itself. -/
theorem decodeCommand_illegal (op : Byte) (h : isIllegalOpcode op = true) : decodeCommand op = .cmdIllegal op := by
  revert op; decide

/-- Every opcode decodes to a well-formed command. -/
theorem decodeCommand_wellFormed (op : Byte) : (decodeCommand op).WellFormed := by
  revert op; decide

end Sys2Proof
end

