-- ==== Sys2Proof/Laws/Ops.lean ====
section
/-! SUPPORT. What the shared operations do, said once: the CRC fold, the receive buffer and its count, validation by
cases, the lanes of a word. -/

namespace Sys2Proof.Machine

/-! ### The CRC -/

@[simp] theorem crcFrom_nil (a : Half) : crcFrom a [] = a := rfl

@[simp] theorem crcFrom_cons (a : Half) (b : Byte) (s : List Byte) : crcFrom a (b :: s) = crcFrom (crcStep a b) s := rfl

/-- The fold over two sequences is the fold over the second from where the first ended. -/
theorem crcFrom_append (a : Half) (s t : List Byte) : crcFrom a (s ++ t) = crcFrom (crcFrom a s) t := by
  simp [crcFrom]

/-- The step reads its arguments only through their exclusive-or. -/
theorem crcStep_eq_of_xor (a a' : Half) (b b' : Byte) (h : a ^^^ b.setWidth 16 = a' ^^^ b'.setWidth 16) :
    crcStep a b = crcStep a' b' := by
  simp only [crcStep, h]

/-- One iteration commutes with exclusive-or: the CRC is linear. -/
theorem crcBit_xor (x y : Half) : crcBit (x ^^^ y) = crcBit x ^^^ crcBit y := by
  have h : (x ^^^ y) >>> 1 = (x >>> 1) ^^^ (y >>> 1) := BitVec.ushiftRight_xor_distrib ..
  simp only [crcBit, BitVec.getLsbD_xor, h]
  cases x.getLsbD 0 <;> cases y.getLsbD 0 <;> simp only [Bool.xor_false, Bool.xor_true, Bool.not_true, Bool.not_false,
    Bool.false_eq_true, if_true, if_false]
  · rw [BitVec.xor_assoc]
  · rw [BitVec.xor_assoc, BitVec.xor_assoc, BitVec.xor_comm crcPoly]
  · rw [BitVec.xor_assoc, BitVec.xor_comm crcPoly, BitVec.xor_assoc, BitVec.xor_self, BitVec.xor_zero]

/-- An iteration on an even accumulator is the shift alone. -/
theorem crcBit_of_even (x : Half) (h : x.getLsbD 0 = false) : crcBit x = x >>> 1 := by
  simp only [crcBit, h, Bool.false_eq_true, if_false]

/-! ### The receive buffer -/

/-- Storing at index `n` replaces the byte at that index and no other. -/
theorem rxStore_getElem (buf : Vector Byte 7) (n b : Byte) (i : Nat) (hi : i < 7) :
    (rxStore buf n b)[i] = if i = n.toNat then b else buf[i] := by
  by_cases h : n.toNat < 7
  · simp [rxStore, h, Vector.getElem_set, eq_comm]
  · have : i ≠ n.toNat := by omega
    simp [rxStore, h, this]

/-- A byte past the seventh is not stored. -/
theorem rxStore_of_full (buf : Vector Byte 7) (n b : Byte) (h : 7 ≤ n.toNat) : rxStore buf n b = buf := by
  simp [rxStore, Nat.not_lt.mpr h]

/-- The count after one more byte, as a number. -/
@[simp] theorem rxCountNext_toNat (n : Byte) : (rxCountNext n).toNat = min (n.toNat + 1) 255 := by
  simp only [rxCountNext, BitVec.toNat_ofNat]
  omega

/-! ### Validation -/

/-- Everything validation can answer, and when. -/
theorem validate_cases (buf : Vector Byte 7) (n : Byte) (chk : Bool) :
    (n.toNat ≠ 7 ∧ validate buf n chk = .truncatedFrame) ∨
    (n.toNat = 7 ∧ buf[1] ≠ 0x03#8 ∧ validate buf n chk = .unexpectedFunctionCode) ∨
    (n.toNat = 7 ∧ buf[1] = 0x03#8 ∧
      (chk = true ∧ ¬ (buf[5] = crcLo (crc16 (responseBody buf)) ∧ buf[6] = crcHi (crc16 (responseBody buf)))) ∧
      validate buf n chk = .checksumMismatch) ∨
    (n.toNat = 7 ∧ buf[1] = 0x03#8 ∧
      (chk = true → buf[5] = crcLo (crc16 (responseBody buf)) ∧ buf[6] = crcHi (crc16 (responseBody buf))) ∧
      validate buf n chk = .ok) := by
  unfold validate responseLength readFunction
  by_cases hn : n.toNat = 7
  · by_cases hf : buf[1] = 0x03#8
    · by_cases hc : chk = true ∧ (buf[5] ≠ crcLo (crc16 (responseBody buf)) ∨ buf[6] ≠ crcHi (crc16 (responseBody buf)))
      · exact .inr (.inr (.inl ⟨hn, hf, ⟨hc.1, by tauto⟩, by simp [hn, hf, hc]⟩))
      · exact .inr (.inr (.inr ⟨hn, hf, by tauto, by simp only [hn, hf, hc]; simp⟩))
    · exact .inr (.inl ⟨hn, hf, by rw [if_neg (not_not.mpr hn), if_pos hf]⟩)
  · exact .inl ⟨hn, by simp [hn]⟩

/-- A CRC is its two trailer bytes, the high one above the low one. -/
theorem crcHi_append_crcLo (c : Half) : (crcHi c ++ crcLo c : Half) = c := by
  apply BitVec.eq_of_getLsbD_eq
  intro i hi
  have h : (crcHi c ++ crcLo c : Half).getLsbD i = (crcHi c ++ crcLo c : BitVec (8 + 8)).getLsbD i := rfl
  rw [h, BitVec.getLsbD_append, crcHi, crcLo, BitVec.getLsbD_extractLsb', BitVec.getLsbD_extractLsb']
  clear h
  grind

/-! ### Lanes -/

/-- Each bit of four packed bytes. -/
theorem getLsbD_packLanes (b0 b1 b2 b3 : Byte) (i : Nat) :
    (packLanes b0 b1 b2 b3).getLsbD i =
      if i < 8 then b0.getLsbD i else if i < 16 then b1.getLsbD (i - 8)
      else if i < 24 then b2.getLsbD (i - 16) else b3.getLsbD (i - 24) := by
  have h : (packLanes b0 b1 b2 b3).getLsbD i =
      (b3 ++ (b2 ++ (b1 ++ b0)) : BitVec (8 + (8 + (8 + 8)))).getLsbD i := rfl
  rw [h, BitVec.getLsbD_append, BitVec.getLsbD_append, BitVec.getLsbD_append]
  clear h
  grind

/-! ### STATUS codes -/

/-- A result's code names the result. -/
@[simp] theorem vresOfCode_code (v : Vres) : vresOfCode v.code = .ok v := by
  cases v <;> rfl

/-- The codes 5 to 7 fault. -/
theorem vresOfCode_of_five_le (c : BitVec 3) (h : 5 ≤ c.toNat) : vresOfCode c = .error (.vresNeverProduced c) := by
  revert c; decide

end Sys2Proof.Machine
end

