-- ==== Sys2Proof/Laws/PerInstr.lean ====
section
/-! SUPPORT. The family EncodesToItsRow: the canonical word of a well-formed instruction lies in a row of
opcode_table.json that carries the instruction's mnemonic (30_encoding.md R74). One lemma for each constructor. -/

namespace Sys2Proof.Laws.EncodesToItsRow

/-- The instruction's canonical word belongs to a row of its own mnemonic. -/
def Statement (i : Instr) : Prop :=
  i.WellFormed → (opcodeTable.any fun r => r.mnemonic == i.mnemonic && r.covers (encode i)) = true

theorem rdCtrl : Statement .rdCtrl := by unfold Statement; decide

theorem rdCmd : Statement .rdCmd := by unfold Statement; decide

theorem rdStatus : Statement .rdStatus := by unfold Statement; decide

theorem rdCrcData : Statement .rdCrcData := by unfold Statement; decide

theorem rdCrcValue : Statement .rdCrcValue := by unfold Statement; decide

theorem rdReqAddr : Statement .rdReqAddr := by unfold Statement; decide

theorem rdTxWord0 : Statement .rdTxWord0 := by unfold Statement; decide

theorem rdTxWord1 : Statement .rdTxWord1 := by unfold Statement; decide

theorem rdRxData : Statement .rdRxData := by unfold Statement; decide

theorem rdRxCount : Statement .rdRxCount := by unfold Statement; decide

theorem rdRxWord0 : Statement .rdRxWord0 := by unfold Statement; decide

theorem rdRxWord1 : Statement .rdRxWord1 := by unfold Statement; decide

theorem rdRxValue : Statement .rdRxValue := by unfold Statement; decide

theorem rdRsvd (w : BitVec 4) : Statement (.rdRsvd w) := by unfold Statement; revert w; decide

theorem wrCtrl (e : Bool) : Statement (.wrCtrl e) := by unfold Statement; revert e; decide

theorem crcInit : Statement .crcInit := by unfold Statement; decide

theorem buildRequest : Statement .buildRequest := by unfold Statement; decide

theorem validate : Statement .validate := by unfold Statement; decide

theorem rxClear : Statement .rxClear := by unfold Statement; decide

theorem cmdIllegal (op : Byte) : Statement (.cmdIllegal op) := by unfold Statement; revert op; decide

theorem wrStatus (k : Bool) : Statement (.wrStatus k) := by unfold Statement; revert k; decide

theorem wrCrcData (b : Byte) : Statement (.wrCrcData b) := by unfold Statement; revert b; decide

theorem wrCrcValue : Statement .wrCrcValue := by unfold Statement; decide

theorem wrReqAddr (a : Byte) : Statement (.wrReqAddr a) := by unfold Statement; revert a; decide

theorem wrTxWord0 : Statement .wrTxWord0 := by unfold Statement; decide

theorem wrTxWord1 : Statement .wrTxWord1 := by unfold Statement; decide

theorem wrRxData (b : Byte) : Statement (.wrRxData b) := by unfold Statement; revert b; decide

theorem wrRxCount : Statement .wrRxCount := by unfold Statement; decide

theorem wrRxWord0 : Statement .wrRxWord0 := by unfold Statement; decide

theorem wrRxWord1 : Statement .wrRxWord1 := by unfold Statement; decide

theorem wrRxValue : Statement .wrRxValue := by unfold Statement; decide

theorem wrRsvd (w : BitVec 4) : Statement (.wrRsvd w) := by unfold Statement; revert w; decide

end Sys2Proof.Laws.EncodesToItsRow
end

