-- ==== Sys2Proof/Laws/State.lean ====
section
/-! SUPPORT. One lemma for each field of each state update, true by definition, so that no later proof unfolds a record
update; and what each transaction does to a state. -/

namespace Sys2Proof.Machine

/-! ### The engine's updates, field by field -/

@[simp] theorem setChken_acc (c : Bool) (e : Engine) : (setChken c e).acc = e.acc := rfl
@[simp] theorem setChken_chken (c : Bool) (e : Engine) : (setChken c e).chken = c := rfl
@[simp] theorem setChken_reqa (c : Bool) (e : Engine) : (setChken c e).reqa = e.reqa := rfl
@[simp] theorem setChken_txbuf (c : Bool) (e : Engine) : (setChken c e).txbuf = e.txbuf := rfl
@[simp] theorem setChken_txv (c : Bool) (e : Engine) : (setChken c e).txv = e.txv := rfl
@[simp] theorem setChken_rxbuf (c : Bool) (e : Engine) : (setChken c e).rxbuf = e.rxbuf := rfl
@[simp] theorem setChken_rxcnt (c : Bool) (e : Engine) : (setChken c e).rxcnt = e.rxcnt := rfl
@[simp] theorem setChken_vres (c : Bool) (e : Engine) : (setChken c e).vres = e.vres := rfl
@[simp] theorem setChken_cmderr (c : Bool) (e : Engine) : (setChken c e).cmderr = e.cmderr := rfl

@[simp] theorem crcRestart_acc (e : Engine) : (crcRestart e).acc = crcInitValue := rfl
@[simp] theorem crcRestart_chken (e : Engine) : (crcRestart e).chken = e.chken := rfl
@[simp] theorem crcRestart_reqa (e : Engine) : (crcRestart e).reqa = e.reqa := rfl
@[simp] theorem crcRestart_txbuf (e : Engine) : (crcRestart e).txbuf = e.txbuf := rfl
@[simp] theorem crcRestart_txv (e : Engine) : (crcRestart e).txv = e.txv := rfl
@[simp] theorem crcRestart_rxbuf (e : Engine) : (crcRestart e).rxbuf = e.rxbuf := rfl
@[simp] theorem crcRestart_rxcnt (e : Engine) : (crcRestart e).rxcnt = e.rxcnt := rfl
@[simp] theorem crcRestart_vres (e : Engine) : (crcRestart e).vres = e.vres := rfl
@[simp] theorem crcRestart_cmderr (e : Engine) : (crcRestart e).cmderr = e.cmderr := rfl

@[simp] theorem crcFeed_acc (b : Byte) (e : Engine) : (crcFeed b e).acc = crcStep e.acc b := rfl
@[simp] theorem crcFeed_chken (b : Byte) (e : Engine) : (crcFeed b e).chken = e.chken := rfl
@[simp] theorem crcFeed_reqa (b : Byte) (e : Engine) : (crcFeed b e).reqa = e.reqa := rfl
@[simp] theorem crcFeed_txbuf (b : Byte) (e : Engine) : (crcFeed b e).txbuf = e.txbuf := rfl
@[simp] theorem crcFeed_txv (b : Byte) (e : Engine) : (crcFeed b e).txv = e.txv := rfl
@[simp] theorem crcFeed_rxbuf (b : Byte) (e : Engine) : (crcFeed b e).rxbuf = e.rxbuf := rfl
@[simp] theorem crcFeed_rxcnt (b : Byte) (e : Engine) : (crcFeed b e).rxcnt = e.rxcnt := rfl
@[simp] theorem crcFeed_vres (b : Byte) (e : Engine) : (crcFeed b e).vres = e.vres := rfl
@[simp] theorem crcFeed_cmderr (b : Byte) (e : Engine) : (crcFeed b e).cmderr = e.cmderr := rfl

@[simp] theorem setReqAddr_acc (a : Byte) (e : Engine) : (setReqAddr a e).acc = e.acc := rfl
@[simp] theorem setReqAddr_chken (a : Byte) (e : Engine) : (setReqAddr a e).chken = e.chken := rfl
@[simp] theorem setReqAddr_reqa (a : Byte) (e : Engine) : (setReqAddr a e).reqa = a := rfl
@[simp] theorem setReqAddr_txbuf (a : Byte) (e : Engine) : (setReqAddr a e).txbuf = e.txbuf := rfl
@[simp] theorem setReqAddr_txv (a : Byte) (e : Engine) : (setReqAddr a e).txv = false := rfl
@[simp] theorem setReqAddr_rxbuf (a : Byte) (e : Engine) : (setReqAddr a e).rxbuf = e.rxbuf := rfl
@[simp] theorem setReqAddr_rxcnt (a : Byte) (e : Engine) : (setReqAddr a e).rxcnt = e.rxcnt := rfl
@[simp] theorem setReqAddr_vres (a : Byte) (e : Engine) : (setReqAddr a e).vres = e.vres := rfl
@[simp] theorem setReqAddr_cmderr (a : Byte) (e : Engine) : (setReqAddr a e).cmderr = e.cmderr := rfl

@[simp] theorem buildRequest_acc (e : Engine) : (buildRequest e).acc = e.acc := rfl
@[simp] theorem buildRequest_chken (e : Engine) : (buildRequest e).chken = e.chken := rfl
@[simp] theorem buildRequest_reqa (e : Engine) : (buildRequest e).reqa = e.reqa := rfl
@[simp] theorem buildRequest_txbuf (e : Engine) : (buildRequest e).txbuf = buildFrame e.reqa := rfl
@[simp] theorem buildRequest_txv (e : Engine) : (buildRequest e).txv = true := rfl
@[simp] theorem buildRequest_rxbuf (e : Engine) : (buildRequest e).rxbuf = e.rxbuf := rfl
@[simp] theorem buildRequest_rxcnt (e : Engine) : (buildRequest e).rxcnt = e.rxcnt := rfl
@[simp] theorem buildRequest_vres (e : Engine) : (buildRequest e).vres = e.vres := rfl
@[simp] theorem buildRequest_cmderr (e : Engine) : (buildRequest e).cmderr = e.cmderr := rfl

@[simp] theorem rxPush_acc (b : Byte) (e : Engine) : (rxPush b e).acc = e.acc := rfl
@[simp] theorem rxPush_chken (b : Byte) (e : Engine) : (rxPush b e).chken = e.chken := rfl
@[simp] theorem rxPush_reqa (b : Byte) (e : Engine) : (rxPush b e).reqa = e.reqa := rfl
@[simp] theorem rxPush_txbuf (b : Byte) (e : Engine) : (rxPush b e).txbuf = e.txbuf := rfl
@[simp] theorem rxPush_txv (b : Byte) (e : Engine) : (rxPush b e).txv = e.txv := rfl
@[simp] theorem rxPush_rxbuf (b : Byte) (e : Engine) : (rxPush b e).rxbuf = rxStore e.rxbuf e.rxcnt b := rfl
@[simp] theorem rxPush_rxcnt (b : Byte) (e : Engine) : (rxPush b e).rxcnt = rxCountNext e.rxcnt := rfl
@[simp] theorem rxPush_vres (b : Byte) (e : Engine) : (rxPush b e).vres = .none := rfl
@[simp] theorem rxPush_cmderr (b : Byte) (e : Engine) : (rxPush b e).cmderr = e.cmderr := rfl

@[simp] theorem rxClear_acc (e : Engine) : (rxClear e).acc = e.acc := rfl
@[simp] theorem rxClear_chken (e : Engine) : (rxClear e).chken = e.chken := rfl
@[simp] theorem rxClear_reqa (e : Engine) : (rxClear e).reqa = e.reqa := rfl
@[simp] theorem rxClear_txbuf (e : Engine) : (rxClear e).txbuf = e.txbuf := rfl
@[simp] theorem rxClear_txv (e : Engine) : (rxClear e).txv = e.txv := rfl
@[simp] theorem rxClear_rxbuf (e : Engine) : (rxClear e).rxbuf = Vector.replicate 7 0x00#8 := rfl
@[simp] theorem rxClear_rxcnt (e : Engine) : (rxClear e).rxcnt = 0#8 := rfl
@[simp] theorem rxClear_vres (e : Engine) : (rxClear e).vres = .none := rfl
@[simp] theorem rxClear_cmderr (e : Engine) : (rxClear e).cmderr = e.cmderr := rfl

@[simp] theorem runValidate_acc (e : Engine) : (runValidate e).acc = e.acc := rfl
@[simp] theorem runValidate_chken (e : Engine) : (runValidate e).chken = e.chken := rfl
@[simp] theorem runValidate_reqa (e : Engine) : (runValidate e).reqa = e.reqa := rfl
@[simp] theorem runValidate_txbuf (e : Engine) : (runValidate e).txbuf = e.txbuf := rfl
@[simp] theorem runValidate_txv (e : Engine) : (runValidate e).txv = e.txv := rfl
@[simp] theorem runValidate_rxbuf (e : Engine) : (runValidate e).rxbuf = e.rxbuf := rfl
@[simp] theorem runValidate_rxcnt (e : Engine) : (runValidate e).rxcnt = e.rxcnt := rfl
@[simp] theorem runValidate_vres (e : Engine) : (runValidate e).vres = validate e.rxbuf e.rxcnt e.chken := rfl
@[simp] theorem runValidate_cmderr (e : Engine) : (runValidate e).cmderr = e.cmderr := rfl

@[simp] theorem clearCmdErr_acc (k : Bool) (e : Engine) : (clearCmdErr k e).acc = e.acc := rfl
@[simp] theorem clearCmdErr_chken (k : Bool) (e : Engine) : (clearCmdErr k e).chken = e.chken := rfl
@[simp] theorem clearCmdErr_reqa (k : Bool) (e : Engine) : (clearCmdErr k e).reqa = e.reqa := rfl
@[simp] theorem clearCmdErr_txbuf (k : Bool) (e : Engine) : (clearCmdErr k e).txbuf = e.txbuf := rfl
@[simp] theorem clearCmdErr_txv (k : Bool) (e : Engine) : (clearCmdErr k e).txv = e.txv := rfl
@[simp] theorem clearCmdErr_rxbuf (k : Bool) (e : Engine) : (clearCmdErr k e).rxbuf = e.rxbuf := rfl
@[simp] theorem clearCmdErr_rxcnt (k : Bool) (e : Engine) : (clearCmdErr k e).rxcnt = e.rxcnt := rfl
@[simp] theorem clearCmdErr_vres (k : Bool) (e : Engine) : (clearCmdErr k e).vres = e.vres := rfl
@[simp] theorem clearCmdErr_cmderr (k : Bool) (e : Engine) :
    (clearCmdErr k e).cmderr = if k then false else e.cmderr := rfl

@[simp] theorem raiseCmdErr_acc (e : Engine) : (raiseCmdErr e).acc = e.acc := rfl
@[simp] theorem raiseCmdErr_chken (e : Engine) : (raiseCmdErr e).chken = e.chken := rfl
@[simp] theorem raiseCmdErr_reqa (e : Engine) : (raiseCmdErr e).reqa = e.reqa := rfl
@[simp] theorem raiseCmdErr_txbuf (e : Engine) : (raiseCmdErr e).txbuf = e.txbuf := rfl
@[simp] theorem raiseCmdErr_txv (e : Engine) : (raiseCmdErr e).txv = e.txv := rfl
@[simp] theorem raiseCmdErr_rxbuf (e : Engine) : (raiseCmdErr e).rxbuf = e.rxbuf := rfl
@[simp] theorem raiseCmdErr_rxcnt (e : Engine) : (raiseCmdErr e).rxcnt = e.rxcnt := rfl
@[simp] theorem raiseCmdErr_vres (e : Engine) : (raiseCmdErr e).vres = e.vres := rfl
@[simp] theorem raiseCmdErr_cmderr (e : Engine) : (raiseCmdErr e).cmderr = true := rfl

/-! ### The state's updates, field by field -/

@[simp] theorem completeRead_engine (v : Word) (s : State) : (completeRead v s).engine = s.engine := rfl
@[simp] theorem completeRead_rdata (v : Word) (s : State) : (completeRead v s).rdata = v := rfl
@[simp] theorem completeRead_pending (v : Word) (s : State) : (completeRead v s).host.pending = s.host.pending := rfl
@[simp] theorem completeRead_index (v : Word) (s : State) : (completeRead v s).host.index = s.host.index := rfl
@[simp] theorem completeRead_reads (v : Word) (s : State) : (completeRead v s).host.reads = s.host.reads ++ [v] := rfl

@[simp] theorem completeWrite_engine (e : Engine) (s : State) : (completeWrite e s).engine = e := rfl
@[simp] theorem completeWrite_rdata (e : Engine) (s : State) : (completeWrite e s).rdata = 0#32 := rfl
@[simp] theorem completeWrite_pending (e : Engine) (s : State) :
    (completeWrite e s).host.pending = s.host.pending := rfl
@[simp] theorem completeWrite_index (e : Engine) (s : State) : (completeWrite e s).host.index = s.host.index := rfl
@[simp] theorem completeWrite_reads (e : Engine) (s : State) : (completeWrite e s).host.reads = s.host.reads := rfl

@[simp] theorem issueTransaction_engine (rest : List BusCycle) (s : State) :
    (issueTransaction rest s).engine = s.engine := rfl
@[simp] theorem issueTransaction_rdata (rest : List BusCycle) (s : State) :
    (issueTransaction rest s).rdata = s.rdata := rfl
@[simp] theorem issueTransaction_pending (rest : List BusCycle) (s : State) :
    (issueTransaction rest s).host.pending = rest := rfl
@[simp] theorem issueTransaction_index (rest : List BusCycle) (s : State) :
    (issueTransaction rest s).host.index = s.host.index + 1 := rfl
@[simp] theorem issueTransaction_reads (rest : List BusCycle) (s : State) :
    (issueTransaction rest s).host.reads = s.host.reads := rfl

@[simp] theorem takeReset_engine (rest : List BusCycle) (s : State) : (takeReset rest s).engine = s.engine := rfl
@[simp] theorem takeReset_rdata (rest : List BusCycle) (s : State) : (takeReset rest s).rdata = s.rdata := rfl
@[simp] theorem takeReset_pending (rest : List BusCycle) (s : State) : (takeReset rest s).host.pending = rest := rfl
@[simp] theorem takeReset_index (rest : List BusCycle) (s : State) :
    (takeReset rest s).host.index = s.host.index := rfl
@[simp] theorem takeReset_reads (rest : List BusCycle) (s : State) :
    (takeReset rest s).host.reads = s.host.reads := rfl

@[simp] theorem applyReset_engine (s : State) : (applyReset s).engine = Engine.reset := rfl
@[simp] theorem applyReset_rdata (s : State) : (applyReset s).rdata = s.rdata := rfl
@[simp] theorem applyReset_pending (s : State) : (applyReset s).host.pending = s.host.pending := rfl
@[simp] theorem applyReset_index (s : State) : (applyReset s).host.index = s.host.index := rfl
@[simp] theorem applyReset_reads (s : State) : (applyReset s).host.reads = s.host.reads := rfl

/-! ### What each transaction answers -/

@[simp] theorem exec_rdCtrl (s : State) : exec .rdCtrl s = .next (completeRead (readRegister .ctrl s.engine) s) := rfl
@[simp] theorem exec_rdCmd (s : State) : exec .rdCmd s = .next (completeRead (readRegister .cmd s.engine) s) := rfl
@[simp] theorem exec_rdStatus (s : State) :
    exec .rdStatus s = .next (completeRead (readRegister .status s.engine) s) := rfl
@[simp] theorem exec_rdCrcData (s : State) :
    exec .rdCrcData s = .next (completeRead (readRegister .crcData s.engine) s) := rfl
@[simp] theorem exec_rdCrcValue (s : State) :
    exec .rdCrcValue s = .next (completeRead (readRegister .crcValue s.engine) s) := rfl
@[simp] theorem exec_rdReqAddr (s : State) :
    exec .rdReqAddr s = .next (completeRead (readRegister .reqAddr s.engine) s) := rfl
@[simp] theorem exec_rdTxWord0 (s : State) :
    exec .rdTxWord0 s = .next (completeRead (readRegister .txWord0 s.engine) s) := rfl
@[simp] theorem exec_rdTxWord1 (s : State) :
    exec .rdTxWord1 s = .next (completeRead (readRegister .txWord1 s.engine) s) := rfl
@[simp] theorem exec_rdRxData (s : State) :
    exec .rdRxData s = .next (completeRead (readRegister .rxData s.engine) s) := rfl
@[simp] theorem exec_rdRxCount (s : State) :
    exec .rdRxCount s = .next (completeRead (readRegister .rxCount s.engine) s) := rfl
@[simp] theorem exec_rdRxWord0 (s : State) :
    exec .rdRxWord0 s = .next (completeRead (readRegister .rxWord0 s.engine) s) := rfl
@[simp] theorem exec_rdRxWord1 (s : State) :
    exec .rdRxWord1 s = .next (completeRead (readRegister .rxWord1 s.engine) s) := rfl
@[simp] theorem exec_rdRxValue (s : State) :
    exec .rdRxValue s = .next (completeRead (readRegister .rxValue s.engine) s) := rfl
@[simp] theorem exec_rdRsvd (w : BitVec 4) (s : State) : exec (.rdRsvd w) s = .next (completeRead 0#32 s) := rfl
@[simp] theorem exec_wrCtrl (c : Bool) (s : State) :
    exec (.wrCtrl c) s = .next (completeWrite (setChken c s.engine) s) := rfl
@[simp] theorem exec_crcInit (s : State) : exec .crcInit s = .next (completeWrite (crcRestart s.engine) s) := rfl
@[simp] theorem exec_buildRequest (s : State) :
    exec .buildRequest s = .next (completeWrite (buildRequest s.engine) s) := rfl
@[simp] theorem exec_validate (s : State) : exec .validate s = .next (completeWrite (runValidate s.engine) s) := rfl
@[simp] theorem exec_rxClear (s : State) : exec .rxClear s = .next (completeWrite (rxClear s.engine) s) := rfl
@[simp] theorem exec_cmdIllegal (op : Byte) (s : State) :
    exec (.cmdIllegal op) s = .next (completeWrite (raiseCmdErr s.engine) s) := rfl
@[simp] theorem exec_wrStatus (k : Bool) (s : State) :
    exec (.wrStatus k) s = .next (completeWrite (clearCmdErr k s.engine) s) := rfl
@[simp] theorem exec_wrCrcData (b : Byte) (s : State) :
    exec (.wrCrcData b) s = .next (completeWrite (crcFeed b s.engine) s) := rfl
@[simp] theorem exec_wrCrcValue (s : State) : exec .wrCrcValue s = .next (completeWrite s.engine s) := rfl
@[simp] theorem exec_wrReqAddr (a : Byte) (s : State) :
    exec (.wrReqAddr a) s = .next (completeWrite (setReqAddr a s.engine) s) := rfl
@[simp] theorem exec_wrTxWord0 (s : State) : exec .wrTxWord0 s = .next (completeWrite s.engine s) := rfl
@[simp] theorem exec_wrTxWord1 (s : State) : exec .wrTxWord1 s = .next (completeWrite s.engine s) := rfl
@[simp] theorem exec_wrRxData (b : Byte) (s : State) :
    exec (.wrRxData b) s = .next (completeWrite (rxPush b s.engine) s) := rfl
@[simp] theorem exec_wrRxCount (s : State) : exec .wrRxCount s = .next (completeWrite s.engine s) := rfl
@[simp] theorem exec_wrRxWord0 (s : State) : exec .wrRxWord0 s = .next (completeWrite s.engine s) := rfl
@[simp] theorem exec_wrRxWord1 (s : State) : exec .wrRxWord1 s = .next (completeWrite s.engine s) := rfl
@[simp] theorem exec_wrRxValue (s : State) : exec .wrRxValue s = .next (completeWrite s.engine s) := rfl
@[simp] theorem exec_wrRsvd (w : BitVec 4) (s : State) : exec (.wrRsvd w) s = .next (completeWrite s.engine s) := rfl

end Sys2Proof.Machine
end

