-- ==== Sys2Proof/Laws/Step.lean ====
section
/-! SUPPORT. What one step can do, said once: it stays, it resets, it performs one transaction, or it refuses. -/

namespace Sys2Proof.Machine

/-- The config's base address is a multiple of 64, so the window ends within the address space. -/
theorem crcBase_toNat : Config.crcBase.toNat = 64 * Config.crcBaseBlock.toNat := by
  have h : Config.crcBase.toNat = (Config.crcBaseBlock ++ 0#6 : BitVec (26 + 6)).toNat := rfl
  rw [h, BitVec.toNat_append]
  simp [Nat.shiftLeft_eq, Nat.mul_comm]

/-- A step on a word that decodes is the transaction, issued. -/
theorem stepWord_of_decode {tw : TW} {i : Instr} (h : decode tw = .ok i) (rest : List BusCycle) (s : State) :
    stepWord tw rest s = exec i (issueTransaction rest s) := by
  simp [stepWord, h]

/-- A transaction answers a next state: this is the whole of what exec can do, as an engine update or a read. -/
theorem exec_answers (i : Instr) (s : State) :
    ∃ t, exec i s = .next t ∧ t.host.pending = s.host.pending ∧ t.host.index = s.host.index := by
  cases i <;> exact ⟨_, rfl, rfl, rfl⟩

/-- Every way a step can answer a next state. -/
theorem step_cases {s t : State} (h : step s = .next t) :
    (s.host.pending = [] ∧ t = s) ∨
    (∃ rest, s.host.pending = .reset :: rest ∧ t = applyReset (takeReset rest s)) ∨
    (∃ i c rest, s.host.pending = c :: rest ∧ Performs s i ∧ exec i (issueTransaction rest s) = .next t) := by
  unfold step at h
  split at h
  · next hp =>
    simp only [Host.Outcome.next.injEq] at h
    exact .inl ⟨hp, h.symm⟩
  · next c rest hp =>
    split at h
    · next tw hc =>
      unfold stepWord at h
      split at h
      · next i hi => exact .inr (.inr ⟨i, c, rest, hp, ⟨c, rest, tw, hp, hc, hi⟩, h⟩)
      · cases h
    · next hc =>
      cases c with
      | reset =>
        simp only [Host.Outcome.next.injEq] at h
        exact .inr (.inl ⟨rest, hp, h.symm⟩)
      | word tw => simp [present] at hc
      | access size a op => cases size <;> simp [present, presentAccess] at hc <;> split at hc <;> cases hc
    · cases h

end Sys2Proof.Machine
end

