-- ==== Sys2Proof/Tests/Slice0.lean ====
section
/-! SUPPORT. The model's own tests: ill-formed terms, words written out from the spec's encodings, one-step checks whose
expected values are those of 95_test_vectors.md and of the rules' own examples, and a witness for the hypotheses of
each statement that has any. -/

open Sys2Proof Sys2Proof.Machine Sys2Proof.Claims

namespace Sys2Proof.Tests

/-! ### Helpers -/

/-- A state whose engine is `e`, with nothing issued yet. -/
def withEngine (e : Engine) : State := { State.reset with engine := e }

/-- The engine after one transaction. -/
def after (i : Instr) (e : Engine) : Option Engine := (nextState (exec i (withEngine e))).map State.engine

/-- The read data of one transaction. -/
def readData (i : Instr) (e : Engine) : Option Word := (nextState (exec i (withEngine e))).map State.rdata

/-- A reset engine that holds the response of V-VAL-1, `01 03 02 00 7B F8 67`. -/
def holdingResponse : Engine := { Engine.reset with rxbuf := #v[0x01, 0x03, 0x02, 0x00, 0x7B, 0xF8, 0x67], rxcnt := 7 }

/-- A reset engine with the request for register 0x05 built (V-BLD-1). -/
def holdingRequest : Engine :=
  { Engine.reset with reqa := 0x05, txbuf := #v[0x01, 0x03, 0x00, 0x05, 0x00, 0x01, 0x94, 0x0B], txv := true }

/-- A state about to take the transaction word `tw`. -/
def about (tw : TW) (e : Engine) : State := (withEngine e).withPending [.word tw]

/-! ### WellFormed refuses (30_encoding.md R74, R75) -/

theorem test_rdRsvd_of_a_register_is_ill_formed : ¬ (Instr.rdRsvd 12).WellFormed := by decide
theorem test_wrRsvd_of_a_register_is_ill_formed : ¬ (Instr.wrRsvd 4).WellFormed := by decide
theorem test_cmdIllegal_of_a_command_is_ill_formed :
    ¬ (Instr.cmdIllegal 0x01).WellFormed ∧ ¬ (Instr.cmdIllegal 0x04).WellFormed := by decide
theorem test_operands_at_their_ends_are_well_formed :
    (Instr.rdRsvd 13).WellFormed ∧ (Instr.wrRsvd 15).WellFormed ∧ (Instr.cmdIllegal 0x00).WellFormed ∧
    (Instr.cmdIllegal 0x05).WellFormed ∧ (Instr.cmdIllegal 0xFF).WellFormed := by decide

/-! ### Words written out from R72 to R75 and the rules' encoding lines -/

theorem test_decode_crc_words :
    decode 0x8100000001 = .ok .crcInit ∧ decode 0x81FFFFFF01 = .ok .crcInit ∧
    decode 0x83000001FF = .ok (.wrCrcData 0xFF) ∧ decode 0x0400000000 = .ok .rdCrcValue ∧
    decode 0x8412345678 = .ok .wrCrcValue ∧ decode 0x0300000000 = .ok .rdCrcData := by decide

theorem test_decode_request_words :
    decode 0x8500001234 = .ok (.wrReqAddr 0x34) ∧ decode 0x0500000000 = .ok .rdReqAddr ∧
    decode 0x8100000302 = .ok .buildRequest ∧ decode 0x0600000000 = .ok .rdTxWord0 ∧
    decode 0x0700000000 = .ok .rdTxWord1 ∧ decode 0x86FFFFFFFF = .ok .wrTxWord0 ∧
    decode 0x8700000000 = .ok .wrTxWord1 := by decide

theorem test_decode_response_words :
    decode 0x8800000141 = .ok (.wrRxData 0x41) ∧ decode 0x8100000004 = .ok .rxClear ∧
    decode 0x8100000003 = .ok .validate ∧ decode 0x0900000000 = .ok .rdRxCount ∧
    decode 0x0A00000000 = .ok .rdRxWord0 ∧ decode 0x0B00000000 = .ok .rdRxWord1 ∧
    decode 0x0C00000000 = .ok .rdRxValue ∧ decode 0x8900000007 = .ok .wrRxCount ∧
    decode 0x8A00000000 = .ok .wrRxWord0 ∧ decode 0x8B00000000 = .ok .wrRxWord1 ∧
    decode 0x8C00000000 = .ok .wrRxValue ∧ decode 0x0800000000 = .ok .rdRxData := by decide

theorem test_decode_control_words :
    decode 0x80FFFFFFFE = .ok (.wrCtrl false) ∧ decode 0x8000000003 = .ok (.wrCtrl true) ∧
    decode 0x0000000000 = .ok .rdCtrl ∧ decode 0x0200000000 = .ok .rdStatus ∧
    decode 0x820000000F = .ok (.wrStatus false) ∧ decode 0x8200000010 = .ok (.wrStatus true) ∧
    decode 0x8100000000 = .ok (.cmdIllegal 0x00) ∧ decode 0x8100000005 = .ok (.cmdIllegal 0x05) ∧
    decode 0x0100000000 = .ok .rdCmd ∧ decode 0x0D00000000 = .ok (.rdRsvd 13) ∧
    decode 0x8FFFFFFFFF = .ok (.wrRsvd 15) := by decide

/-- V-CTL-9. -/
theorem test_decode_refuses_rsv :
    decode 0x9100000001 = .error (.rsvNonzero 1) ∧ decode 0xF000000000 = .error (.rsvNonzero 7) := by decide

theorem test_decodeTableWord :
    decodeTableWord 40 0x8300000031 = some (.wrCrcData 0x31) ∧ decodeTableWord 40 0x9100000001 = none := by
  decide

theorem test_withFetchWord_runs_the_word :
    (nextState (step (State.reset.withFetchWord 40 0x8300000001))).map (fun t => (t.engine.acc, t.host.index)) =
      some (0x807E, 1) := by decide

/-! ### The CRC (V-CRC-1 to V-CRC-9) -/

theorem test_crcStep :
    crcStep 0xFFFF 0x01 = 0x807E ∧ crcStep 0x0000 0x01 = 0xC0C1 ∧ crcStep 0x1234 0x56 = 0xE993 ∧
    crcStep 0x8000 0x00 = 0x0080 ∧ crcStep 0xFFFF 0x80 = 0xE0BE := by decide

theorem test_crc16_check_value :
    crc16 [0x31, 0x32, 0x33, 0x34, 0x35, 0x36, 0x37, 0x38, 0x39] = 0x4B37 ∧
    crc16 [0x01, 0x03, 0x00, 0x01, 0x00, 0x01] = 0xCAD5 := by decide +kernel

/-! ### One step of each transaction -/

theorem test_crcInit : after .crcInit { Engine.reset with acc := 0x1234 } = some Engine.reset := by decide

theorem test_wrCrcData :
    after (.wrCrcData 0x03) { Engine.reset with acc := 0x807E } = some { Engine.reset with acc := 0x2140 } := by
  decide

theorem test_rdCrcValue : readData .rdCrcValue { Engine.reset with acc := 0x2140 } = some 0x00002140 := by decide

theorem test_wrCrcValue_and_rdCrcData :
    after .wrCrcValue Engine.reset = some Engine.reset ∧ readData .rdCrcData Engine.reset = some 0 := by decide

/-- V-BLD-5: the frame stays and is marked stale, even for the same address. -/
theorem test_wrReqAddr :
    after (.wrReqAddr 0x06) holdingRequest = some { holdingRequest with reqa := 0x06, txv := false } ∧
    after (.wrReqAddr 0x05) holdingRequest = some { holdingRequest with txv := false } := by decide

theorem test_rdReqAddr : readData .rdReqAddr holdingRequest = some 0x00000005 := by decide

/-- V-BLD-2. -/
theorem test_buildRequest :
    (after .buildRequest { Engine.reset with reqa := 0xFF }).map (fun e => (e.txbuf, e.txv)) =
      some (#v[0x01, 0x03, 0x00, 0xFF, 0x00, 0x01, 0xB4, 0x3A], true) := by decide +kernel

theorem test_rdTxWords :
    readData .rdTxWord0 holdingRequest = some 0x05000301 ∧ readData .rdTxWord1 holdingRequest = some 0x0B940100 := by
  decide

theorem test_wrTxWords :
    after .wrTxWord0 holdingRequest = some holdingRequest ∧ after .wrTxWord1 holdingRequest = some holdingRequest := by
  decide

/-- R141: an eighth byte is counted and discarded, and makes VRES NONE. -/
theorem test_wrRxData :
    after (.wrRxData 0x01) Engine.reset =
      some { Engine.reset with rxbuf := #v[0x01, 0x00, 0x00, 0x00, 0x00, 0x00, 0x00], rxcnt := 1 } ∧
    after (.wrRxData 0x00) { holdingResponse with vres := .ok } = some { holdingResponse with rxcnt := 8 } := by
  decide

theorem test_wrRxData_saturates :
    (after (.wrRxData 0x00) { Engine.reset with rxcnt := 255 }).map Engine.rxcnt = some 255 := by decide

theorem test_rxClear : after .rxClear { holdingResponse with vres := .ok } = some Engine.reset := by decide

/-- V-VAL-1, V-VAL-13 (both settings). -/
theorem test_validate_ok_and_mismatch :
    (after .validate holdingResponse).map Engine.vres = some .ok ∧
    (after .validate { holdingResponse with rxbuf := #v[0x01, 0x03, 0x02, 0x00, 0x7A, 0xF8, 0x67] }).map Engine.vres =
      some .checksumMismatch ∧
    (after .validate { holdingResponse with
      rxbuf := #v[0x01, 0x03, 0x02, 0x00, 0x7A, 0xF8, 0x67], chken := false }).map Engine.vres = some .ok := by
  decide +kernel

/-- V-VAL-6, V-VAL-9. -/
theorem test_validate_length_and_function :
    (after .validate { holdingResponse with rxcnt := 8 }).map Engine.vres = some .truncatedFrame ∧
    (after .validate { holdingResponse with rxbuf := #v[0x01, 0x04, 0x02, 0x00, 0x7B, 0xF8, 0x67] }).map Engine.vres =
      some .unexpectedFunctionCode := by decide

theorem test_rdRxWords :
    readData .rdRxCount holdingResponse = some 0x00000007 ∧ readData .rdRxWord0 holdingResponse = some 0x00020301 ∧
    readData .rdRxWord1 holdingResponse = some 0x0067F87B := by decide

/-- V-VAL-21: 0x7FFF, 0x8000 and 0xFFCE. -/
theorem test_rdRxValue :
    readData .rdRxValue { holdingResponse with rxbuf := #v[0x01, 0x03, 0x02, 0x7F, 0xFF, 0xD8, 0x34] } =
      some 0x00007FFF ∧
    readData .rdRxValue { holdingResponse with rxbuf := #v[0x01, 0x03, 0x02, 0x80, 0x00, 0xD9, 0x84] } =
      some 0xFFFF8000 ∧
    readData .rdRxValue { holdingResponse with rxbuf := #v[0x01, 0x03, 0x02, 0xFF, 0xCE, 0x78, 0x20] } =
      some 0xFFFFFFCE := by decide

/-- V-VAL-23. -/
theorem test_wrRxReadOnly :
    after .wrRxCount holdingResponse = some holdingResponse ∧ after .wrRxWord0 holdingResponse = some holdingResponse ∧
    after .wrRxWord1 holdingResponse = some holdingResponse ∧ after .wrRxValue holdingResponse = some holdingResponse ∧
    readData .rdRxData holdingResponse = some 0 := by decide

theorem test_ctrl :
    after (.wrCtrl false) Engine.reset = some { Engine.reset with chken := false } ∧
    readData .rdCtrl Engine.reset = some 0x00000001 := by decide

/-- V-CTL-4: STATUS = 0x19. -/
theorem test_rdStatus :
    readData .rdStatus { Engine.reset with cmderr := true, txv := true, vres := .ok } = some 0x00000019 ∧
    readData .rdStatus { Engine.reset with vres := .checksumMismatch } = some 0x00000004 := by decide

/-- V-CTL-5. -/
theorem test_wrStatus :
    after (.wrStatus true) { Engine.reset with cmderr := true, vres := .ok } = some { Engine.reset with vres := .ok } ∧
    after (.wrStatus false) { Engine.reset with cmderr := true } = some { Engine.reset with cmderr := true } := by
  decide

/-- V-CTL-2. -/
theorem test_cmdIllegal : after (.cmdIllegal 0x00) Engine.reset = some { Engine.reset with cmderr := true } := by
  decide

theorem test_rdCmd_and_reserved :
    readData .rdCmd Engine.reset = some 0 ∧ readData (.rdRsvd 13) Engine.reset = some 0 ∧
    after (.wrRsvd 14) Engine.reset = some Engine.reset := by decide

/-- R53, R51: an unaligned address reaches the word that contains it, and the window ends after 64 bytes. -/
theorem test_window :
    wordIndex 0x40000000 0x4000002B = 10 ∧ inWindow 0x40000000 0x4000003F = true ∧
    inWindow 0x40000000 0x40000040 = false ∧ inWindow 0xFFFFFFC0 0x00000000 = false := by decide

/-! ### Witnesses: the hypotheses of each statement are met -/

theorem witness_ResetCycleRestoresTheEngine : (State.reset.withPending [.reset]).host.pending = .reset :: [] := rfl

theorem witness_ResetOverlapEndsInResetEitherWay : decode 0x8100000001 = .ok .crcInit := by decide

theorem witness_IdlePortChangesNothing : State.reset.host.pending = [] := rfl

theorem witness_StepRunsTheDecodedTransaction :
    (about 0x8300000001 Engine.reset).host.pending = .word 0x8300000001 :: [] ∧
    decode 0x8300000001 = .ok (.wrCrcData 0x01) := ⟨rfl, by decide⟩

theorem crcBase_last_byte : (Config.crcBase + 63).toNat = Config.crcBase.toNat + 63 := by
  have h := crcBase_toNat
  have := Config.crcBaseBlock.isLt
  rw [BitVec.toNat_add, show (63 : Word).toNat = 63 from rfl]
  omega

theorem witness_AccessReachesTheWordOfItsAddress :
    (Config.crcBase.toNat ≤ Config.crcBase.toNat ∧ Config.crcBase.toNat < Config.crcBase.toNat + 64) ∧
    (Config.crcBase.toNat ≤ (Config.crcBase + 63).toNat ∧
      (Config.crcBase + 63).toNat < Config.crcBase.toNat + 64) ∧
    (State.reset.withPending [.access .word32 (Config.crcBase + 63) (.write 1)]).host.pending =
      .access .word32 (Config.crcBase + 63) (.write 1) :: [] := by
  rw [crcBase_last_byte]
  exact ⟨by omega, by omega, rfl⟩

theorem witness_LowAddressBitsAreIgnoredAndNarrowAccessesRefused :
    (∃ s : State, s.host.pending =
      .access .word32 (Config.crcBase + (0#26 ++ (15#4 ++ 3#2))) (.write 1) :: []) ∧
    (∃ s : State, s.host.pending = .access .byte8 (Config.crcBase + (0#26 ++ (0#4 ++ 0#2))) .read :: []) ∧
    AccessSize.byte8 ≠ .word32 :=
  ⟨⟨State.reset.withPending [_], rfl⟩, ⟨State.reset.withPending [_], rfl⟩, by decide⟩

theorem witness_PortRefusesWhatIsNoTransaction :
    ((0x9100000001 : TW).extractLsb' 36 3 ≠ 0#3 ∧
      (about 0x9100000001 Engine.reset).host.pending = .word 0x9100000001 :: []) ∧
    ¬ (Config.crcBase.toNat ≤ (Config.crcBase + 64).toNat ∧
      (Config.crcBase + 64).toNat < Config.crcBase.toNat + 64) ∧
    (State.reset.withPending [.access .word32 (Config.crcBase + 64) .read]).host.pending =
      .access .word32 (Config.crcBase + 64) .read :: [] := by
  refine ⟨⟨by decide, rfl⟩, ?_, rfl⟩
  have := Config.crcBaseBlock.isLt
  have h := crcBase_toNat
  rw [BitVec.toNat_add, show (64 : Word).toNat = 64 from rfl]
  omega

theorem witness_EveryTransactionCompletes :
    (0x8F00000000 : TW).extractLsb' 36 3 = 0#3 ∧
    (about 0x8F00000000 Engine.reset).host.pending = .word 0x8F00000000 :: [] := ⟨by decide, rfl⟩

theorem witness_DecodeOfEncodeIsTheTransaction :
    (Instr.wrCrcData 0xFF).WellFormed ∧ (Instr.rdRsvd 15).WellFormed ∧ (Instr.cmdIllegal 0xFF).WellFormed := by decide

theorem witness_EncodeIsTheWordWithIgnoredBitsCleared : decode 0x83000001FF = .ok (.wrCrcData 0xFF) := by
  decide

theorem witness_EveryWordSelectsOneOpcodeRow :
    (0x8FFFFFFFFF : TW).extractLsb' 36 3 = 0#3 ∧ (0x9100000001 : TW).extractLsb' 36 3 ≠ 0#3 := by decide

theorem witness_StreamedBytesGiveTheirCrc :
    (∀ i ∈ [Instr.wrCrcData 0x01, .validate, .wrCrcData 0x03], i.WellFormed) ∧
    Instr.crcInit ∉ [Instr.wrCrcData 0x01, .validate, .wrCrcData 0x03] := by decide

theorem witness_OnlyCrcTransactionsAndResetWriteAcc :
    ∃ t, step (about 0x8300000001 Engine.reset) = .next t ∧ t.engine.acc ≠ Engine.reset.acc :=
  ⟨_, rfl, by decide⟩

theorem witness_FrameTransactionsNeverReadAcc :
    Instr.buildRequest ≠ .crcInit ∧ (∀ b, Instr.buildRequest ≠ .wrCrcData b) ∧ Instr.buildRequest ≠ .rdCrcValue ∧
    ∃ t, exec .buildRequest State.reset = .next t := ⟨by decide, by decide, by decide, _, rfl⟩

theorem witness_RxCountFallsOnlyByClearOrReset :
    (∃ t, step (about 0x8800000041 Engine.reset) = .next t) ∧ ¬ Performs (about 0x8800000041 Engine.reset) .rxClear ∧
    ¬ TakesReset (about 0x8800000041 Engine.reset) := by
  refine ⟨⟨_, rfl⟩, ?_, ?_⟩
  · rintro ⟨c, rest, tw, hp, hc, hd⟩
    have hp' : BusCycle.word 0x8800000041 = c := (List.cons.inj hp).1
    subst hp'
    have ht : (0x8800000041 : TW) = tw := PortEvent.transaction.inj hc
    subst ht
    exact absurd hd (by decide)
  · rintro ⟨rest, hp⟩
    exact absurd (List.cons.inj hp).1 (by decide)

theorem witness_ValidateMeetsTheSourceContract : State.reset.engine.chken = true := rfl

theorem witness_IllegalCommandSetsOnlyCmdErr :
    ((0x00 : Byte) = 0 ∨ 5 ≤ (0x00 : Byte).toNat) ∧ ((0x05 : Byte) = 0 ∨ 5 ≤ (0x05 : Byte).toNat) ∧
    ((0xFF : Byte) = 0 ∨ 5 ≤ (0xFF : Byte).toNat) := by decide

theorem witness_ReservedWordsReadZeroAndIgnoreWrites : 13 ≤ (13#4).toNat ∧ 13 ≤ (15#4).toNat := by decide

theorem witness_RecordedStatusWordsReadBack :
    5 ≤ ((0x00000005 : Word).extractLsb' 0 3).toNat ∧ 5 ≤ ((0xFFFFFFFF : Word).extractLsb' 0 3).toNat := by decide

/-- Each flag is changed by a step in each way the statement names but reset, which the last two lines give. -/
theorem witness_FlagsChangeOnlyByTheirWriters :
    (∃ t, step (about 0x8100000003 holdingResponse) = .next t ∧ t.engine.vres ≠ holdingResponse.vres) ∧
    (∃ t, step (about 0x8800000000 { holdingResponse with vres := .ok }) = .next t ∧ t.engine.vres ≠ .ok) ∧
    (∃ t, step (about 0x8100000002 Engine.reset) = .next t ∧ t.engine.txv ≠ Engine.reset.txv) ∧
    (∃ t, step (about 0x8500000006 holdingRequest) = .next t ∧ t.engine.txv ≠ holdingRequest.txv) ∧
    (∃ t, step (about 0x8100000000 Engine.reset) = .next t ∧ t.engine.cmderr ≠ Engine.reset.cmderr) ∧
    (∃ t, step (about 0x8200000010 { Engine.reset with cmderr := true }) = .next t ∧ t.engine.cmderr ≠ true) ∧
    ∃ t, step ((withEngine { holdingRequest with cmderr := true, vres := .ok }).withPending [.reset]) = .next t ∧
      t.engine.vres ≠ .ok ∧ t.engine.txv ≠ true ∧ t.engine.cmderr ≠ true :=
  ⟨⟨_, rfl, by decide +kernel⟩, ⟨_, rfl, by decide +kernel⟩, ⟨_, rfl, by decide +kernel⟩, ⟨_, rfl, by decide +kernel⟩,
    ⟨_, rfl, by decide⟩, ⟨_, rfl, by decide⟩, _, rfl, by decide, by decide, by decide⟩

theorem witness_RegistersChangeOnlyByTheirWriters :
    (∃ t, step (about 0x8000000000 Engine.reset) = .next t ∧ t.engine.chken ≠ Engine.reset.chken) ∧
    (∃ t, step (about 0x8500000006 Engine.reset) = .next t ∧ t.engine.reqa ≠ Engine.reset.reqa) ∧
    (∃ t, step (about 0x8100000002 Engine.reset) = .next t ∧ t.engine.txbuf ≠ Engine.reset.txbuf) ∧
    ∃ t, step (about 0x8800000041 Engine.reset) = .next t ∧ (t.engine.rxbuf ≠ Engine.reset.rxbuf ∨
      t.engine.rxcnt ≠ Engine.reset.rxcnt) :=
  ⟨⟨_, rfl, by decide +kernel⟩, ⟨_, rfl, by decide +kernel⟩, ⟨_, rfl, by decide +kernel⟩, _, rfl, by decide +kernel⟩

theorem witness_ReadsAndPlainWritesAreIdempotent : (0#4 ∈ [0#4, 5#4]) ∧ 5#4 ∈ [0#4, 5#4] := by decide

theorem witness_ReadOnlyWordsIgnoreWrites :
    Instr.wrRxValue ∈ [Instr.wrCrcValue, .wrTxWord0, .wrTxWord1, .wrRxCount, .wrRxWord0, .wrRxWord1, .wrRxValue] := by
  decide

theorem witness_WriteOnlyWordsReadZero : Instr.rdCmd ∈ [Instr.rdCrcData, .rdRxData, .rdCmd] := by decide

/-- A state with the invariant that is not the reset state: a response held, about to be validated. -/
theorem witness_EveryStepKeepsTheEngineInvariant :
    (about 0x8100000003 holdingResponse).engine.Inv ∧
    ∃ t, step (about 0x8100000003 holdingResponse) = .next t ∧ t.engine.vres = .ok :=
  ⟨⟨by decide, by decide, .inl rfl⟩, _, rfl, by decide +kernel⟩

end Sys2Proof.Tests
end

section
/-! SUPPORT. What one step does with the host's list, by its first cycle (00_scope.md R9), and the two statements of
00_scope.md that say so. -/

namespace Sys2Proof.Machine

/-- R9, log entry 3: with no cycle presented nothing changes. -/
theorem step_of_pending_nil {s : State} (hp : s.host.pending = []) : step s = .next s := by
  simp only [step, hp]

/-- Word or access, a first cycle that the port takes as the transaction `tw` runs as `tw`. -/
theorem step_of_transaction {s : State} {c : BusCycle} {rest : List BusCycle} {tw : TW}
    (hp : s.host.pending = c :: rest) (hc : present Config.crcBase c = .transaction tw) :
    step s = stepWord tw rest s := by
  simp only [step, hp, hc]

@[simp] theorem present_word (base : Word) (tw : TW) : present base (.word tw) = .transaction tw := rfl

/-- Settles O4: `step` on an empty list of cycles. -/
theorem idlePortChangesNothing : Obligations.IdlePortChangesNothing := by
  unfold Obligations.IdlePortChangesNothing
  intro s hp
  exact step_of_pending_nil hp

/-- Settles O5: the port takes a word as it stands, and a word that decodes is issued and executed; the state
`issueTransaction` gives is the one the statement writes out. -/
theorem stepRunsTheDecodedTransaction : Obligations.StepRunsTheDecodedTransaction := by
  unfold Obligations.StepRunsTheDecodedTransaction
  intro s tw rest i hp hi
  calc step s
      _ = stepWord tw rest s := step_of_transaction hp (present_word _ tw)
      _ = exec i (issueTransaction rest s) := stepWord_of_decode hi rest s

end Sys2Proof.Machine
end

section
/-! SUPPORT. What each transaction does to the engine, as one function of the engine, and what a step does with it: the
form in which a statement about the engine alone needs neither `exec`'s arms nor the host's side. -/

namespace Sys2Proof.Machine

/-- The engine once the transaction `i` has completed: the writers of 30_encoding.md R74 by their update, and the engine
as it was for every other transaction. -/
def engineAfter (i : Instr) (e : Engine) : Engine :=
  match i with
  | .wrCtrl c => setChken c e
  | .crcInit => crcRestart e
  | .buildRequest => buildRequest e
  | .validate => runValidate e
  | .rxClear => rxClear e
  | .cmdIllegal _ => raiseCmdErr e
  | .wrStatus k => clearCmdErr k e
  | .wrCrcData b => crcFeed b e
  | .wrReqAddr a => setReqAddr a e
  | .wrRxData b => rxPush b e
  | _ => e

/-- Every transaction completes with its engine update, and takes nothing from the host's list. -/
theorem exec_engineAfter (i : Instr) (s : State) :
    ∃ t, exec i s = .next t ∧ t.engine = engineAfter i s.engine ∧ t.host.pending = s.host.pending := by
  cases i <;> exact ⟨_, rfl, rfl, rfl⟩

/-- Every way a step can leave the engine. -/
theorem step_engine_cases {s t : State} (h : step s = .next t) :
    t.engine = s.engine ∨ (TakesReset s ∧ t.engine = Engine.reset) ∨
    ∃ i, Performs s i ∧ t.engine = engineAfter i s.engine := by
  obtain ⟨-, rfl⟩ | ⟨rest, hp, rfl⟩ | ⟨i, c, rest, -, hi, hx⟩ := step_cases h
  · exact .inl rfl
  · exact .inr (.inl ⟨⟨rest, hp⟩, rfl⟩)
  · obtain ⟨u, hu, he, -⟩ := exec_engineAfter i (issueTransaction rest s)
    obtain rfl : u = t := Host.Outcome.next.inj (hu.symm.trans hx)
    exact .inr (.inr ⟨i, hi, he⟩)

/-! ### The engine's invariant, update by update -/

/-- After reset nothing is received, no frame is valid and nothing is judged (10_state.md R36). -/
theorem inv_reset : Engine.reset.Inv where
  txValid := nofun
  rxTail i _ := by simp [Engine.reset]
  vresFresh := .inl rfl

/-- A new address makes the frame stale (41_frame_build.md R121). -/
theorem inv_setReqAddr (a : Byte) {e : Engine} (h : e.Inv) : (setReqAddr a e).Inv where
  txValid := nofun
  rxTail := h.rxTail
  vresFresh := h.vresFresh

/-- A built frame is the current address's (41_frame_build.md R123). -/
theorem inv_buildRequest {e : Engine} (h : e.Inv) : (buildRequest e).Inv where
  txValid _ := rfl
  rxTail := h.rxTail
  vresFresh := h.vresFresh

/-- A received byte is stored below the new count, and withdraws the judgement (42_frame_validate.md R141). -/
theorem inv_rxPush (b : Byte) {e : Engine} (h : e.Inv) : (rxPush b e).Inv where
  txValid := h.txValid
  rxTail i hi := by
    rw [rxPush_rxcnt, rxCountNext_toNat] at hi
    have hpast : i.val ≠ e.rxcnt.toNat ∧ e.rxcnt.toNat ≤ i.val := by omega
    rw [rxPush_rxbuf, rxStore_getElem _ _ _ _ i.isLt, if_neg hpast.1]
    exact h.rxTail i hpast.2
  vresFresh := .inl rfl

/-- A cleared buffer is all zero, and not judged (42_frame_validate.md R142). -/
theorem inv_rxClear {e : Engine} (h : e.Inv) : (rxClear e).Inv where
  txValid := h.txValid
  rxTail i _ := by simp
  vresFresh := .inl rfl

/-- A validation judges the buffer as it stands, under the check setting that stands (42_frame_validate.md R144). -/
theorem inv_runValidate {e : Engine} (h : e.Inv) : (runValidate e).Inv where
  txValid := h.txValid
  rxTail := h.rxTail
  vresFresh := .inr ⟨e.chken, rfl⟩

/-- Every transaction keeps the engine's invariant: the updates of the frame, the receive side and VRES by their lemmas
above, and every other update because it touches none of the fields the invariant speaks of. -/
theorem inv_engineAfter (i : Instr) {e : Engine} (h : e.Inv) : (engineAfter i e).Inv := by
  cases i with
  | wrReqAddr a => exact inv_setReqAddr a h
  | buildRequest => exact inv_buildRequest h
  | wrRxData b => exact inv_rxPush b h
  | rxClear => exact inv_rxClear h
  | validate => exact inv_runValidate h
  | _ => exact ⟨h.txValid, h.rxTail, h.vresFresh⟩

/-- Settles O53: a step leaves the engine as it was, resets it, or updates it by one transaction. -/
theorem everyStepKeepsTheEngineInvariant : Obligations.EveryStepKeepsTheEngineInvariant := by
  unfold Obligations.EveryStepKeepsTheEngineInvariant
  intro s t hs h
  obtain he | ⟨-, he⟩ | ⟨i, -, he⟩ := step_engine_cases h <;> rw [he]
  · exact hs
  · exact inv_reset
  · exact inv_engineAfter i hs

/-- Settles O52. -/
theorem resetMeetsTheEngineInvariant : Obligations.ResetMeetsTheEngineInvariant := by
  unfold Obligations.ResetMeetsTheEngineInvariant
  exact inv_reset

end Sys2Proof.Machine
end

section
/-! SUPPORT. Which transactions change each STATUS flag, and to what (10_state.md R33). -/

namespace Sys2Proof.Machine

/-- VRES is judged by VALIDATE, and withdrawn by the transactions that change the receive buffer. -/
theorem engineAfter_vres_writers {i : Instr} {e : Engine} (h : (engineAfter i e).vres ≠ e.vres) :
    i = .validate ∨ ((engineAfter i e).vres = .none ∧ ((∃ b, i = .wrRxData b) ∨ i = .rxClear)) := by
  cases i with
  | validate => exact .inl rfl
  | wrRxData b => exact .inr ⟨rfl, .inl ⟨b, rfl⟩⟩
  | rxClear => exact .inr ⟨rfl, .inr rfl⟩
  | _ => exact absurd rfl h

/-- TXV is set by BUILD_REQUEST and cleared by a new address. -/
theorem engineAfter_txv_writers {i : Instr} {e : Engine} (h : (engineAfter i e).txv ≠ e.txv) :
    ((engineAfter i e).txv = true ∧ i = .buildRequest) ∨ ((engineAfter i e).txv = false ∧ ∃ a, i = .wrReqAddr a) := by
  cases i with
  | buildRequest => exact .inl ⟨rfl, rfl⟩
  | wrReqAddr a => exact .inr ⟨rfl, a, rfl⟩
  | _ => exact absurd rfl h

/-- CMDERR is set by an illegal command and cleared by a STATUS write with bit 4 set. -/
theorem engineAfter_cmderr_writers {i : Instr} {e : Engine} (h : (engineAfter i e).cmderr ≠ e.cmderr) :
    ((engineAfter i e).cmderr = true ∧ ∃ op, i = .cmdIllegal op) ∨
    ((engineAfter i e).cmderr = false ∧ i = .wrStatus true) := by
  cases i with
  | cmdIllegal op => exact .inl ⟨rfl, op, rfl⟩
  | wrStatus k =>
    cases k with
    | true => exact .inr ⟨rfl, rfl⟩
    | false => exact absurd rfl h
  | _ => exact absurd rfl h

/-- Settles O49: a step that changes a flag is a reset, whose flags are all at NONE or 0, or performs one of the flag's
writers. -/
theorem flagsChangeOnlyByTheirWriters : Obligations.FlagsChangeOnlyByTheirWriters := by
  unfold Obligations.FlagsChangeOnlyByTheirWriters
  intro s t h
  obtain he | ⟨hr, he⟩ | ⟨i, hi, he⟩ := step_engine_cases h <;> rw [he]
  · exact ⟨absurd rfl, absurd rfl, absurd rfl⟩
  · exact ⟨fun _ => .inr ⟨rfl, .inr (.inr hr)⟩, fun _ => .inr ⟨rfl, .inr hr⟩, fun _ => .inr ⟨rfl, .inr hr⟩⟩
  · refine ⟨fun hc => ?_, fun hc => ?_, fun hc => ?_⟩
    · obtain rfl | ⟨hv, ⟨b, rfl⟩ | rfl⟩ := engineAfter_vres_writers hc
      · exact .inl hi
      · exact .inr ⟨hv, .inl ⟨b, hi⟩⟩
      · exact .inr ⟨hv, .inr (.inl hi)⟩
    · obtain ⟨hv, rfl⟩ | ⟨hv, a, rfl⟩ := engineAfter_txv_writers hc
      · exact .inl ⟨hv, hi⟩
      · exact .inr ⟨hv, .inl ⟨a, hi⟩⟩
    · obtain ⟨hv, op, rfl⟩ | ⟨hv, rfl⟩ := engineAfter_cmderr_writers hc
      · exact .inl ⟨hv, op, hi⟩
      · exact .inr ⟨hv, .inl hi⟩

end Sys2Proof.Machine
end

section
/-! SUPPORT. Runs of a sequence of transactions: each canonical word decodes to its transaction, so that the run is the
engine's updates one after the other. Then the statement of 40_crc.md R110 on the accumulator along such a run. -/

open Sys2Proof.Claims

namespace Sys2Proof.Machine

/-! ### Canonical words -/

/-- A canonical command word decodes by its opcode (30_encoding.md R73). -/
@[simp] theorem decode_encodeCommand (op : Byte) : decode (encodeCommand op) = .ok (decodeCommand op) := by
  simp [encodeCommand, decodeWrite]

/-- A well-formed transaction is read back from its canonical word. -/
theorem decode_encode {i : Instr} (h : i.WellFormed) : decode (encode i) = .ok i := by
  cases i with
  | rdRsvd w => revert w; decide
  | wrRsvd w => revert w; decide
  | wrCtrl c => cases c <;> decide
  | wrStatus k => cases k <;> decide
  | cmdIllegal op => rw [encode, decode_encodeCommand, decodeCommand_illegal op h]
  | crcInit | buildRequest | validate | rxClear => rw [encode, decode_encodeCommand]; rfl
  | _ => simp [encode, decodeRead, decodeWrite]

/-! ### Runs -/

/-- The engine after a sequence of transactions. -/
def engineAfterAll (is : List Instr) (e : Engine) : Engine := is.foldl (fun e i => engineAfter i e) e

@[simp] theorem engineAfterAll_nil (e : Engine) : engineAfterAll [] e = e := rfl

@[simp] theorem engineAfterAll_cons (i : Instr) (is : List Instr) (e : Engine) :
    engineAfterAll (i :: is) e = engineAfterAll is (engineAfter i e) := rfl

theorem engineAfterAll_append (is js : List Instr) (e : Engine) :
    engineAfterAll (is ++ js) e = engineAfterAll js (engineAfterAll is e) := by
  simp [engineAfterAll]

@[simp] theorem withPending_engine (cs : List BusCycle) (s : State) : (s.withPending cs).engine = s.engine := rfl

@[simp] theorem withPending_pending (cs : List BusCycle) (s : State) :
    (s.withPending cs).host.pending = cs ++ s.host.pending := rfl

/-- A run goes on from the state its first step answers. -/
theorem runSteps_succ {s t : State} (h : step s = .next t) (n : Nat) : runSteps (n + 1) s = runSteps n t := by
  simp only [runSteps, h]

/-- A first cycle that is a well-formed transaction's canonical word updates the engine and is taken from the list. -/
theorem step_of_encode {s : State} {i : Instr} {rest : List BusCycle} (hi : i.WellFormed)
    (hp : s.host.pending = .word (encode i) :: rest) :
    ∃ t, step s = .next t ∧ t.engine = engineAfter i s.engine ∧ t.host.pending = rest := by
  obtain ⟨t, ht, he, hrest⟩ := exec_engineAfter i (issueTransaction rest s)
  exact ⟨t, by rw [step_of_transaction hp (present_word _ _), stepWord_of_decode (decode_encode hi), ht], he, hrest⟩

/-- A reset cycle resets the engine and is taken from the list (70_reset_and_hazards.md R220, log entry 8). -/
theorem step_of_reset {s : State} {rest : List BusCycle} (hp : s.host.pending = .reset :: rest) :
    ∃ t, step s = .next t ∧ t.engine = Engine.reset ∧ t.host.pending = rest :=
  ⟨applyReset (takeReset rest s), by simp only [step, hp, present], rfl, rfl⟩

/-- A run over well-formed transactions makes their engine updates in order and leaves what comes after them. -/
theorem runSteps_cyclesOf {is : List Instr} (hw : ∀ i ∈ is, i.WellFormed) {rest : List BusCycle} {s : State}
    (hp : s.host.pending = cyclesOf is ++ rest) :
    ∃ t, runSteps is.length s = .next t ∧ t.engine = engineAfterAll is s.engine ∧ t.host.pending = rest := by
  induction is generalizing s with
  | nil => exact ⟨s, rfl, rfl, hp⟩
  | cons i is ih =>
    obtain ⟨hi, his⟩ := List.forall_mem_cons.mp hw
    obtain ⟨u, hu, hue, hup⟩ := step_of_encode hi hp
    obtain ⟨t, ht, hte, htp⟩ := ih his hup
    exact ⟨t, by rw [List.length_cons, runSteps_succ hu, ht], by rw [hte, hue, engineAfterAll_cons], htp⟩

/-- The same after a reset cycle: the updates start from the reset engine. -/
theorem runSteps_reset_cyclesOf {is : List Instr} (hw : ∀ i ∈ is, i.WellFormed) {rest : List BusCycle} {s : State}
    (hp : s.host.pending = .reset :: (cyclesOf is ++ rest)) :
    ∃ t, runSteps (is.length + 1) s = .next t ∧ t.engine = engineAfterAll is Engine.reset ∧ t.host.pending = rest := by
  obtain ⟨u, hu, hue, hup⟩ := step_of_reset hp
  obtain ⟨t, ht, hte, htp⟩ := runSteps_cyclesOf hw hup
  exact ⟨t, by rw [runSteps_succ hu, ht], by rw [hte, hue], htp⟩

/-! ### The accumulator along a run -/

/-- A transaction but CRC_INIT folds into the accumulator what it streams: the byte of a CRC_DATA write, or nothing. -/
theorem engineAfter_acc {i : Instr} (h : i ≠ .crcInit) (e : Engine) :
    (engineAfter i e).acc = crcFrom e.acc (streamed [i]) := by
  cases i with
  | crcInit => exact absurd rfl h
  | _ => rfl

theorem streamed_cons (i : Instr) (is : List Instr) : streamed (i :: is) = streamed [i] ++ streamed is :=
  List.filterMap_append (l := [i])

/-- Without CRC_INIT, a sequence of transactions folds the bytes it streams into the accumulator. -/
theorem engineAfterAll_acc {is : List Instr} (h : .crcInit ∉ is) (e : Engine) :
    (engineAfterAll is e).acc = crcFrom e.acc (streamed is) := by
  induction is generalizing e with
  | nil => rfl
  | cons i is ih =>
    obtain ⟨hi, his⟩ := List.ne_and_not_mem_of_not_mem_cons h
    calc (engineAfterAll (i :: is) e).acc
        _ = crcFrom (engineAfter i e).acc (streamed is) := ih his _
        _ = crcFrom (crcFrom e.acc (streamed [i])) (streamed is) := by rw [engineAfter_acc hi.symm]
        _ = crcFrom e.acc (streamed (i :: is)) := by rw [streamed_cons i is, crcFrom_append]

/-- Settles O23: CRC_INIT and reset both leave the accumulator at the CRC's initial value, and the rest of the run folds
the streamed bytes into it. -/
theorem streamedBytesGiveTheirCrc : Obligations.StreamedBytesGiveTheirCrc := by
  unfold Obligations.StreamedBytesGiveTheirCrc
  intro s is hw hinit
  constructor
  · have hw' : ∀ i ∈ Instr.crcInit :: is, i.WellFormed := List.forall_mem_cons.mpr ⟨rfl, hw⟩
    obtain ⟨t, ht, hte, htp⟩ := runSteps_cyclesOf hw' (withPending_pending _ s)
    refine ⟨t, ht, ?_, htp⟩
    rw [hte, engineAfterAll_cons, engineAfterAll_acc hinit]
    rfl
  · obtain ⟨t, ht, hte, htp⟩ := runSteps_reset_cyclesOf hw (s := s.withPending (.reset :: cyclesOf is)) rfl
    refine ⟨t, ht, ?_, htp⟩
    rw [hte, engineAfterAll_acc hinit]
    rfl

end Sys2Proof.Machine
end

section
/-! SUPPORT. What received bytes leave in the receive buffer (42_frame_validate.md R140), and that the engine's
validation of that buffer is the source's judgement of the bytes (R152). -/

namespace Sys2Proof.Machine

/-! ### The receive buffer after a sequence of bytes -/

/-- The engine after one RX_DATA write for each byte of a sequence. -/
def rxPushAll (raw : List Byte) (e : Engine) : Engine := engineAfterAll (raw.map .wrRxData) e

@[simp] theorem rxPushAll_nil (e : Engine) : rxPushAll [] e = e := rfl

@[simp] theorem rxPushAll_cons (b : Byte) (raw : List Byte) (e : Engine) :
    rxPushAll (b :: raw) e = rxPushAll raw (rxPush b e) := rfl

theorem rxPushAll_concat (raw : List Byte) (b : Byte) (e : Engine) :
    rxPushAll (raw ++ [b]) e = rxPush b (rxPushAll raw e) := by
  simp [rxPushAll, engineAfterAll_append, engineAfter]

/-- Received bytes change the receive side and nothing else. -/
theorem rxPushAll_frame (raw : List Byte) (e : Engine) :
    rxPushAll raw e = { e with rxbuf := (rxPushAll raw e).rxbuf, rxcnt := (rxPushAll raw e).rxcnt,
                               vres := (rxPushAll raw e).vres } := by
  induction raw generalizing e with
  | nil => rfl
  | cons b raw ih =>
    rw [rxPushAll_cons]
    exact ih (rxPush b e)

/-- From an empty buffer, the count is the number of bytes, saturated. -/
theorem rxPushAll_rxcnt {e : Engine} (hn : e.rxcnt = 0#8) (raw : List Byte) :
    (rxPushAll raw e).rxcnt.toNat = min raw.length 255 := by
  induction raw using List.reverseRecOn with
  | nil => simp [hn]
  | append_singleton raw b ih =>
    rw [rxPushAll_concat, rxPush_rxcnt, rxCountNext_toNat, ih, List.length_append, List.length_singleton]
    omega

/-- From an empty buffer, the buffer holds the first seven bytes, followed by zeros. -/
theorem rxPushAll_rxbuf {e : Engine} (hn : e.rxcnt = 0#8) (hz : e.rxbuf = Vector.replicate 7 0x00#8)
    (raw : List Byte) (i : Fin 7) : (rxPushAll raw e).rxbuf[i.val] = raw.getD i.val 0x00#8 := by
  induction raw using List.reverseRecOn with
  | nil => simp [hz]
  | append_singleton raw b ih =>
    rw [rxPushAll_concat, rxPush_rxbuf, rxStore_getElem _ _ _ _ i.isLt, rxPushAll_rxcnt hn, ih]
    have hi := i.isLt
    obtain hlt | heq | hgt := Nat.lt_trichotomy i.val raw.length
    · rw [if_neg (by omega), List.getD_append _ _ _ _ hlt]
    · rw [if_pos (by omega), List.getD_append_right _ _ _ _ heq.ge, heq, Nat.sub_self]
      rfl
    · rw [if_neg (by omega), List.getD_eq_default _ _ hgt.le, List.getD_eq_default _ _ (by simp; omega)]

/-! ### The source's contract -/

/-- A CRC is the little-endian value of two trailer bytes exactly when they are its low and its high byte. -/
theorem eq_append_iff_trailer (c : Half) (lo hi : Byte) : c = hi ++ lo ↔ lo = crcLo c ∧ hi = crcHi c := by
  constructor
  · rintro rfl
    exact ⟨BitVec.extractLsb'_append_eq_right.symm, BitVec.extractLsb'_append_eq_left.symm⟩
  · rintro ⟨rfl, rfl⟩
    exact (crcHi_append_crcLo c).symm

/-- The source calls every sequence that has not seven bytes truncated. -/
theorem validateResponse_of_length_ne {raw : List Byte} (h : raw.length ≠ 7) :
    validateResponse raw = .error .truncatedFrame := by
  unfold validateResponse
  split
  · exact absurd rfl h
  · rfl

/-- With the check on, the engine's validation of a buffer and a count filled from a byte sequence of any length is the
source's judgement of the sequence: only seven bytes count as seven, and then the buffer holds the sequence. -/
theorem validate_eq_validateResponse {buf : Vector Byte 7} {n : Byte} {raw : List Byte}
    (hn : n.toNat = min raw.length 255) (hbuf : ∀ i : Fin 7, buf[i.val] = raw.getD i.val 0x00#8) :
    validate buf n true = vresOfContract (validateResponse raw) := by
  by_cases hlen : raw.length = 7
  · match raw, hlen with
    | [b0, b1, b2, b3, b4, b5, b6], _ =>
      have hbody : responseBody buf = [b0, b1, b2, b3, b4] := by
        simp only [responseBody, List.cons.injEq, and_true]
        exact ⟨hbuf 0, hbuf 1, hbuf 2, hbuf 3, hbuf 4⟩
      have h1 : buf[1] = b1 := hbuf 1
      have h5 : buf[5] = b5 := hbuf 5
      have h6 : buf[6] = b6 := hbuf 6
      obtain ⟨hne, -⟩ | ⟨-, hf, hv⟩ | ⟨-, hf, ⟨-, hc⟩, hv⟩ | ⟨-, hf, hc, hv⟩ := validate_cases buf n true
      · exact absurd hn hne
      · rw [h1] at hf
        simp only [hv, validateResponse, if_pos hf, vresOfContract]
      · rw [hbody, h5, h6, ← eq_append_iff_trailer] at hc
        rw [h1] at hf
        simp only [hv, validateResponse, if_neg (not_not.mpr hf), if_pos hc, vresOfContract]
      · rw [hbody, h5, h6, ← eq_append_iff_trailer] at hc
        rw [h1] at hf
        simp only [hv, validateResponse, if_neg (not_not.mpr hf), if_neg (not_not.mpr (hc rfl)), vresOfContract]
  · have hn7 : n.toNat ≠ responseLength := by rw [hn, responseLength]; omega
    rw [validateResponse_of_length_ne hlen, validate, if_pos hn7]
    rfl

/-- Every byte sequence written to RX_DATA and then validated is well formed. -/
theorem push_then_validate_wellFormed (raw : List Byte) :
    ∀ i ∈ raw.map Instr.wrRxData ++ [.validate], i.WellFormed := by
  simp only [List.forall_mem_append, List.forall_mem_map, List.forall_mem_singleton]
  exact ⟨fun _ _ => rfl, rfl⟩

/-- Settles O54: the run is the received bytes from the reset engine, then VALIDATE, which writes VRES alone. -/
theorem validateAfterResetMeetsTheSourceContract : Obligations.ValidateAfterResetMeetsTheSourceContract := by
  unfold Obligations.ValidateAfterResetMeetsTheSourceContract
  intro s raw
  obtain ⟨t, ht, hte, -⟩ := runSteps_reset_cyclesOf (push_then_validate_wellFormed raw)
    (s := s.withPending (.reset :: cyclesOf (raw.map .wrRxData ++ [.validate]))) rfl
  have hrun : t.engine = runValidate (rxPushAll raw Engine.reset) := by
    rw [hte, engineAfterAll_append]
    rfl
  have hcnt := rxPushAll_rxcnt (e := Engine.reset) rfl raw
  have hbuf := rxPushAll_rxbuf (e := Engine.reset) rfl rfl raw
  have hframe := rxPushAll_frame raw Engine.reset
  have hvres : validate (rxPushAll raw Engine.reset).rxbuf (rxPushAll raw Engine.reset).rxcnt
      (rxPushAll raw Engine.reset).chken = vresOfContract (validateResponse raw) := by
    rw [hframe]
    exact validate_eq_validateResponse hcnt hbuf
  refine ⟨t, by simpa using ht, ?_, ?_, ?_⟩ <;> rw [hrun]
  · exact hcnt
  · exact hbuf
  · rw [runValidate, hvres, hframe]
    rfl

end Sys2Proof.Machine
end

section
/-! SUPPORT. The register window as a read shows it: every read row of 30_encoding.md R74 at once, the byte lanes of the
frame buffers (10_state.md R30, R31), the STATUS word (R25) and the values after reset (R36). -/

namespace Sys2Proof.Machine

/-! ### Every read row -/

/-- A read of a register returns the register's word and leaves the rest of the state as it was. -/
@[simp] theorem exec_decodeRead (r : Reg) (s : State) :
    exec (decodeRead r) s = .next (completeRead (readRegister r s.engine) s) := by
  cases r <;> rfl

/-- Every read word decodes to the read of its register, whatever its DATA. -/
theorem decode_readWord (w : BitVec 4) (d : Word) :
    decode (0x0#4 ++ (w ++ d)) = .ok (decodeRead (Reg.ofIndex w)) := by
  rw [append_eq_mkTW_false, decode_mkTW]
  rfl

/-- What each word of the window reads as after reset. -/
theorem readRegister_reset (w : BitVec 4) :
    readRegister (Reg.ofIndex w) Engine.reset =
      if w = 0 then 0x00000001 else if w = 4 then 0x0000FFFF else 0x00000000 := by
  revert w; decide

/-- Settles O1: the reset engine is the one written out, and the 16 reads go through the register map. -/
theorem resetHoldsTheSpecValues : Obligations.ResetHoldsTheSpecValues := by
  unfold Obligations.ResetHoldsTheSpecValues
  refine ⟨rfl, fun w => ⟨_, _, decode_readWord w 0#32, exec_decodeRead _ _, ?_⟩⟩
  rw [completeRead_rdata]
  exact readRegister_reset w

/-! ### Lanes -/

/-- Lane `k` of four packed bytes is byte `k`. -/
theorem extractLsb'_packLanes (b0 b1 b2 b3 : Byte) (k : Fin 4) :
    (packLanes b0 b1 b2 b3).extractLsb' (8 * k.val) 8 = #v[b0, b1, b2, b3][k.val] := by
  apply BitVec.eq_of_getLsbD_eq
  intro j hj
  rw [BitVec.getLsbD_extractLsb', getLsbD_packLanes]
  fin_cases k <;> simp [hj] <;> grind

theorem txWord0_lane (e : Engine) (k : Fin 4) : (txWord0 e).extractLsb' (8 * k.val) 8 = e.txbuf[k.val] := by
  rw [txWord0, extractLsb'_packLanes]
  fin_cases k <;> rfl

theorem txWord1_lane (e : Engine) (k : Fin 4) : (txWord1 e).extractLsb' (8 * k.val) 8 = e.txbuf[k.val + 4] := by
  rw [txWord1, extractLsb'_packLanes]
  fin_cases k <;> rfl

theorem rxWord0_lane (e : Engine) (k : Fin 4) : (rxWord0 e).extractLsb' (8 * k.val) 8 = e.rxbuf[k.val] := by
  rw [rxWord0, extractLsb'_packLanes]
  fin_cases k <;> rfl

/-- The top lane of RX_WORD1 holds no buffer byte (42_frame_validate.md R147). -/
theorem rxWord1_lane (e : Engine) (k : Fin 3) : (rxWord1 e).extractLsb' (8 * k.val) 8 = e.rxbuf[k.val + 4] := by
  refine (extractLsb'_packLanes _ _ _ _ k.castSucc).trans ?_
  fin_cases k <;> rfl

/-- The word and the lane of a buffer index: an index below 4 is its own lane, any other lies 4 above its lane. -/
theorem lane_cases {i : Nat} (hi : i < 8) :
    (i < 4 ∧ i % 4 = i) ∨ ∃ k < 4, i = k + 4 ∧ ¬ k + 4 < 4 ∧ (k + 4) % 4 = k := by
  obtain hlow | ⟨k, rfl⟩ := (Nat.lt_or_ge i 4).imp_right Nat.exists_eq_add_of_le'
  · exact .inl ⟨hlow, Nat.mod_eq_of_lt hlow⟩
  · exact .inr ⟨k, by omega, rfl, by omega, by omega⟩

/-- Settles O37: the index's word is read, and the index's lane of that word is the byte. -/
theorem bufferBytesSitInTheirLanes : Obligations.BufferBytesSitInTheirLanes := by
  unfold Obligations.BufferBytesSitInTheirLanes
  constructor
  · rintro s ⟨i, hi⟩
    obtain ⟨hlow, hlane⟩ | ⟨k, hk, rfl, hhigh, hlane⟩ := lane_cases hi
    · simp only [if_pos hlow, hlane]
      exact ⟨_, exec_rdTxWord0 s, txWord0_lane s.engine ⟨i, hlow⟩⟩
    · simp only [if_neg hhigh, hlane]
      exact ⟨_, exec_rdTxWord1 s, txWord1_lane s.engine ⟨k, hk⟩⟩
  · rintro s ⟨i, hi⟩
    obtain ⟨hlow, hlane⟩ | ⟨k, -, rfl, hhigh, hlane⟩ := lane_cases (i := i) (by omega)
    · simp only [if_pos hlow, hlane]
      exact ⟨_, exec_rdRxWord0 s, rxWord0_lane s.engine ⟨i, hlow⟩⟩
    · simp only [if_neg hhigh, hlane]
      exact ⟨_, exec_rdRxWord1 s, rxWord1_lane s.engine ⟨k, by omega⟩⟩

/-! ### The STATUS word -/

/-- The three fields of a STATUS word as read. -/
theorem statusWord_fields (e : Engine) :
    (statusWord e).extractLsb' 0 3 = e.vres.code ∧ (statusWord e).getLsbD 3 = e.txv ∧
    (statusWord e).getLsbD 4 = e.cmderr := by
  unfold statusWord
  cases e.cmderr <;> cases e.txv <;> cases e.vres <;> decide

/-- A STATUS word of the engine reads back as its flags. -/
theorem decodeStatusWord_statusWord (e : Engine) :
    decodeStatusWord (statusWord e) = .ok { cmderr := e.cmderr, txv := e.txv, vres := e.vres } := by
  obtain ⟨hvres, htxv, hcmderr⟩ := statusWord_fields e
  simp only [decodeStatusWord, hvres, htxv, hcmderr, vresOfCode_code]

/-- A STATUS word with one of the codes 5 to 7 faults by the code, whatever its other bits (I6). -/
theorem decodeStatusWord_of_five_le {w : Word} (h : 5 ≤ (w.extractLsb' 0 3).toNat) :
    decodeStatusWord w = .error (.vresNeverProduced (w.extractLsb' 0 3)) := by
  simp only [decodeStatusWord, vresOfCode_of_five_le _ h]

/-- Settles O48. -/
theorem recordedStatusWordsReadBack : Obligations.RecordedStatusWordsReadBack := by
  unfold Obligations.RecordedStatusWordsReadBack
  exact ⟨fun s => ⟨_, exec_rdStatus s, decodeStatusWord_statusWord s.engine⟩,
    fun w h => decodeStatusWord_of_five_le h⟩

end Sys2Proof.Machine
end

section
/-! SUPPORT. The register window by byte address (20_memory.md R50, R51, R53): an access in the window runs as the
transaction on its word, and one that is not a whole word is refused. Then the transactions that may be repeated
(R58). -/

open Sys2Proof.Claims

namespace Sys2Proof.Machine

/-! ### Accesses in the window -/

/-- The bounds of R51. -/
theorem inWindow_iff (base a : Word) : inWindow base a = true ↔ base.toNat ≤ a.toNat ∧ a.toNat < base.toNat + 64 := by
  simp [inWindow]

/-- The port's transaction word of an access is the one 30_encoding.md R72 spells. -/
theorem busOpWord_eq_accessWord (w : BitVec 4) (op : BusOp) : busOpWord w op = accessWord w op := by
  cases op with
  | read => exact (append_eq_mkTW_false w 0#32).symm
  | write d => exact (append_eq_mkTW_true w d).symm

/-- A 32-bit access in the window reaches the port as the transaction on its word. -/
theorem present_access_word32 {base a : Word} (ha : inWindow base a = true) (op : BusOp) :
    present base (.access .word32 a op) = .transaction (accessWord (wordIndex base a) op) := by
  simp only [present, presentAccess, if_pos ha, busOpWord_eq_accessWord]

/-- A narrow access in the window is refused by the name of its size. -/
theorem present_access_narrow {base a : Word} (ha : inWindow base a = true) (op : BusOp) {size : AccessSize}
    (hsize : size ≠ .word32) : present base (.access size a op) = .refused (.narrowAccess size) := by
  simp only [present, presentAccess, if_pos ha]
  cases size with
  | word32 => exact absurd rfl hsize
  | _ => rfl

/-- A first cycle that the port refuses ends the step with the port's refusal. -/
theorem step_of_refused {s : State} {c : BusCycle} {rest : List BusCycle} {r : Refusal}
    (hp : s.host.pending = c :: rest) (hc : present Config.crcBase c = .refused r) : step s = .refused r := by
  simp only [step, hp, hc]

/-- A first cycle that the port takes as the transaction `tw` may be replaced by the word `tw`. -/
theorem step_eq_step_replaceFirst {s : State} {c : BusCycle} {rest : List BusCycle} {tw : TW}
    (hp : s.host.pending = c :: rest) (hc : present Config.crcBase c = .transaction tw) :
    step s = step (replaceFirst tw rest s) :=
  calc step s
      _ = stepWord tw rest s := step_of_transaction hp hc
      _ = stepWord tw rest (replaceFirst tw rest s) := rfl
      _ = step (replaceFirst tw rest s) := (step_of_transaction rfl (present_word _ tw)).symm

/-- Settles O6. -/
theorem accessReachesTheWordOfItsAddress : Obligations.AccessReachesTheWordOfItsAddress := by
  unfold Obligations.AccessReachesTheWordOfItsAddress
  intro s rest a op hlo hhi hp
  exact step_eq_step_replaceFirst hp (present_access_word32 ((inWindow_iff _ a).mpr ⟨hlo, hhi⟩) op)

/-! ### The addresses of the window -/

/-- The byte offset of byte `lo` of word `w`. -/
theorem windowOffset_toNat (w : BitVec 4) (lo : BitVec 2) :
    (0#26 ++ (w ++ lo) : Word).toNat = 4 * w.toNat + lo.toNat := by
  revert w lo; decide

/-- Bits [5:2] of the offset are the word, whatever the byte. -/
theorem windowOffset_word (w : BitVec 4) (lo : BitVec 2) : (0#26 ++ (w ++ lo) : Word).extractLsb' 2 4 = w := by
  revert w lo; decide

/-- The base is a multiple of 64, so that every byte of every word lies in the window without wrapping. -/
theorem inWindow_crcBase_add (w : BitVec 4) (lo : BitVec 2) :
    inWindow Config.crcBase (Config.crcBase + (0#26 ++ (w ++ lo))) = true := by
  have hoff := windowOffset_toNat w lo
  have hbase := crcBase_toNat
  rw [inWindow_iff, BitVec.toNat_add]
  omega

/-- Every byte of word `w` reaches word `w`. -/
theorem wordIndex_add (base : Word) (w : BitVec 4) (lo : BitVec 2) :
    wordIndex base (base + (0#26 ++ (w ++ lo))) = w := by
  rw [wordIndex, BitVec.add_comm, BitVec.add_sub_cancel, windowOffset_word]

/-- Settles O7: byte `lo` of word `w` lies in the window and reaches word `w`, so that the port's two answers to an
access in the window apply. -/
theorem lowAddressBitsAreIgnoredAndNarrowAccessesRefused :
    Obligations.LowAddressBitsAreIgnoredAndNarrowAccessesRefused := by
  unfold Obligations.LowAddressBitsAreIgnoredAndNarrowAccessesRefused
  intro s rest w lo op size a hp
  have ha : inWindow Config.crcBase a = true := inWindow_crcBase_add w lo
  have hw : wordIndex Config.crcBase a = w := wordIndex_add Config.crcBase w lo
  refine ⟨fun hsize => ?_, fun hsize => step_of_refused hp (present_access_narrow ha op hsize)⟩
  subst hsize
  exact step_eq_step_replaceFirst hp (hw ▸ present_access_word32 ha op)

/-! ### Repeated transactions -/

/-- Every write word decodes to the write of its register. -/
theorem decode_writeWord (w : BitVec 4) (d : Word) :
    decode (0x8#4 ++ (w ++ d)) = .ok (decodeWrite (Reg.ofIndex w) d) := by
  rw [append_eq_mkTW_true, decode_mkTW]
  rfl

@[simp] theorem setChken_setChken (c : Bool) (e : Engine) : setChken c (setChken c e) = setChken c e := rfl

@[simp] theorem setReqAddr_setReqAddr (a : Byte) (e : Engine) :
    setReqAddr a (setReqAddr a e) = setReqAddr a e := rfl

/-- Settles O51: a read shows its register and keeps the engine, so the second read shows the same; the updates of CTRL
and REQ_ADDR are idempotent. -/
theorem readsAndPlainWritesAreIdempotent : Obligations.ReadsAndPlainWritesAreIdempotent := by
  unfold Obligations.ReadsAndPlainWritesAreIdempotent
  refine ⟨fun w d s => ?_, fun d s w hw => ?_⟩
  · exact ⟨_, _, _, decode_readWord w d, exec_decodeRead _ s, rfl, exec_decodeRead _ _, rfl, rfl⟩
  · simp only [List.mem_cons, List.not_mem_nil, or_false] at hw
    obtain rfl | rfl := hw
    · exact ⟨_, _, _, decode_writeWord 0#4 d, exec_wrCtrl _ s, exec_wrCtrl _ _, setChken_setChken _ s.engine⟩
    · exact ⟨_, _, _, decode_writeWord 5#4 d, exec_wrReqAddr _ s, exec_wrReqAddr _ _,
        setReqAddr_setReqAddr _ s.engine⟩

end Sys2Proof.Machine
end

section
/-! SUPPORT. The encoder against the decoder (30_encoding.md R72 to R75, R82): what a word that decodes is made of, the
bits of DATA a write keeps, and the statements that the two undo each other up to the ignored bits. -/

namespace Sys2Proof

/-- Settles O10, by the round trip that the runs of canonical words rest on. -/
theorem decodeOfEncodeIsTheTransaction : Obligations.DecodeOfEncodeIsTheTransaction := by
  unfold Obligations.DecodeOfEncodeIsTheTransaction
  exact fun _ => Machine.decode_encode

/-! ### Words that decode -/

/-- A word with RSV = 000 is a read or a write of some register, with some DATA, and decodes to that register's row. -/
theorem exists_register_of_rsv_zero {tw : TW} (h : twRsv tw = 0#3) :
    ∃ (r : Reg) (d : Word), (tw = mkTW false r.index d ∧ decode tw = .ok (decodeRead r)) ∨
      (tw = mkTW true r.index d ∧ decode tw = .ok (decodeWrite r d)) := by
  have hfields : tw = mkTW (twDir tw) (Reg.ofIndex (twWord tw)).index (twData tw) := by
    rw [index_ofIndex, mkTW_fields tw h]
  refine ⟨Reg.ofIndex (twWord tw), twData tw, ?_⟩
  cases hdir : twDir tw with
  | false => exact .inl ⟨hdir ▸ hfields, by simp [decode, h, hdir]⟩
  | true => exact .inr ⟨hdir ▸ hfields, by simp [decode, h, hdir]⟩

/-- A word with RSV != 000 is refused by its RSV bits (R76). -/
theorem decode_of_rsv_ne_zero {tw : TW} (h : twRsv tw ≠ 0#3) : decode tw = .error (.rsvNonzero (twRsv tw)) :=
  if_neg h

/-- Only a word with RSV = 000 decodes. -/
theorem rsv_zero_of_decode {tw : TW} {i : Instr} (h : decode tw = .ok i) : twRsv tw = 0#3 := by
  by_contra hrsv
  rw [decode_of_rsv_ne_zero hrsv] at h
  cases h

/-- Every row the decoder can answer is well formed. -/
theorem decodeRead_wellFormed (r : Reg) : (decodeRead r).WellFormed := by
  cases r <;> rfl

theorem decodeWrite_wellFormed (r : Reg) (d : Word) : (decodeWrite r d).WellFormed := by
  cases r with
  | cmd => exact decodeCommand_wellFormed (dataByte d)
  | _ => rfl

/-! ### The bits of DATA that count -/

/-- The bits of DATA that a write of the register reads (R82). -/
def Reg.operandMask : Reg → Word
  | .ctrl => 0x01#32
  | .status => 0x10#32
  | .cmd | .crcData | .reqAddr | .rxData => 0xFF#32
  | _ => 0#32

/-- Masking DATA beside a kept head byte masks the DATA field. -/
theorem mkTW_and_head_append (dir : Bool) (w : BitVec 4) (d m : Word) :
    mkTW dir w d &&& (0xFF#8 ++ m : TW) = mkTW dir w (d &&& m) := by
  rw [← head_append_eq_mkTW, ← head_append_eq_mkTW]
  refine BitVec.and_append.trans ?_
  rw [show 0xFF#8 = BitVec.allOnes 8 from rfl, BitVec.and_allOnes]

theorem setWidth_dataChkEn (d : Word) : (BitVec.ofBool (dataChkEn d)).setWidth 32 = d &&& 0x01#32 :=
  BitVec.and_one_eq_setWidth_ofBool_getLsbD.symm

theorem setWidth_dataClearErr (d : Word) : (BitVec.ofBool (dataClearErr d)).setWidth 32 <<< 4 = d &&& 0x10#32 := by
  rw [show 0x10#32 = BitVec.twoPow 32 4 from rfl, BitVec.and_twoPow, dataClearErr]
  cases d.getLsbD 4 <;> rfl

theorem setWidth_dataByte (d : Word) : (dataByte d).setWidth 32 = d &&& 0xFF#32 := by
  apply BitVec.eq_of_toNat_eq
  rw [dataByte, BitVec.toNat_setWidth, BitVec.extractLsb'_toNat, BitVec.toNat_and, Nat.shiftRight_zero,
    show (0xFF#32).toNat = 2 ^ 8 - 1 from rfl, Nat.and_two_pow_sub_one_eq_mod]
  omega

/-- The canonical word of a command is its opcode's, whichever command the opcode selects. -/
theorem encode_decodeCommand (op : Byte) : encode (decodeCommand op) = encodeCommand op := by
  unfold decodeCommand
  split_ifs with h1 h2 h3 h4
  · rw [h1]; rfl
  · rw [h2]; rfl
  · rw [h3]; rfl
  · rw [h4]; rfl
  · rfl

theorem significantBits_decodeCommand (op : Byte) : significantBits (decodeCommand op) = 0xFF000000FF#40 := by
  unfold decodeCommand
  split_ifs <;> rfl

/-- The canonical word of a read carries DATA = 0. -/
theorem encode_decodeRead (r : Reg) : encode (decodeRead r) = mkTW false r.index 0#32 := by
  cases r <;> rfl

/-- The canonical word of a write carries the operand's bits of DATA. -/
theorem encode_decodeWrite (r : Reg) (d : Word) :
    encode (decodeWrite r d) = mkTW true r.index (d &&& r.operandMask) := by
  cases r with
  | ctrl => rw [Reg.operandMask, ← setWidth_dataChkEn]; rfl
  | cmd => rw [Reg.operandMask, ← setWidth_dataByte]; exact encode_decodeCommand (dataByte d)
  | status => rw [Reg.operandMask, ← setWidth_dataClearErr]; rfl
  | crcData | reqAddr | rxData => rw [Reg.operandMask, ← setWidth_dataByte]; rfl
  | _ => exact congrArg (mkTW true _) BitVec.and_zero.symm

/-- A read is selected by the head byte alone. -/
theorem significantBits_decodeRead (r : Reg) : significantBits (decodeRead r) = 0xFF#8 ++ 0#32 := by
  cases r <;> rfl

/-- A write reads the head byte and its operand's bits. -/
theorem significantBits_decodeWrite (r : Reg) (d : Word) :
    significantBits (decodeWrite r d) = 0xFF#8 ++ r.operandMask := by
  cases r with
  | cmd => exact significantBits_decodeCommand (dataByte d)
  | _ => rfl

/-- Settles O11: the word is a read or a write of a register, and masking it keeps its head byte and the operand's bits
of DATA. -/
theorem encodeIsTheWordWithIgnoredBitsCleared : Obligations.EncodeIsTheWordWithIgnoredBitsCleared := by
  unfold Obligations.EncodeIsTheWordWithIgnoredBitsCleared
  intro tw i hi
  obtain ⟨r, d, ⟨htw, hr⟩ | ⟨htw, hr⟩⟩ := exists_register_of_rsv_zero (rsv_zero_of_decode hi)
  · obtain rfl : decodeRead r = i := Except.ok.inj (hr.symm.trans hi)
    refine ⟨decodeRead_wellFormed r, ?_⟩
    rw [htw, encode_decodeRead, significantBits_decodeRead, mkTW_and_head_append, BitVec.and_zero]
  · obtain rfl : decodeWrite r d = i := Except.ok.inj (hr.symm.trans hi)
    refine ⟨decodeWrite_wellFormed r d, ?_⟩
    rw [htw, encode_decodeWrite, significantBits_decodeWrite, mkTW_and_head_append]

end Sys2Proof
end

section
/-! SUPPORT. The family EncodesToItsRow, put together. -/

namespace Sys2Proof.Laws.EncodesToItsRow

theorem statement_of_every_instr : ∀ i, Statement i
  | .rdCtrl => rdCtrl
  | .rdCmd => rdCmd
  | .rdStatus => rdStatus
  | .rdCrcData => rdCrcData
  | .rdCrcValue => rdCrcValue
  | .rdReqAddr => rdReqAddr
  | .rdTxWord0 => rdTxWord0
  | .rdTxWord1 => rdTxWord1
  | .rdRxData => rdRxData
  | .rdRxCount => rdRxCount
  | .rdRxWord0 => rdRxWord0
  | .rdRxWord1 => rdRxWord1
  | .rdRxValue => rdRxValue
  | .rdRsvd w => rdRsvd w
  | .wrCtrl e => wrCtrl e
  | .crcInit => crcInit
  | .buildRequest => buildRequest
  | .validate => validate
  | .rxClear => rxClear
  | .cmdIllegal op => cmdIllegal op
  | .wrStatus k => wrStatus k
  | .wrCrcData b => wrCrcData b
  | .wrCrcValue => wrCrcValue
  | .wrReqAddr a => wrReqAddr a
  | .wrTxWord0 => wrTxWord0
  | .wrTxWord1 => wrTxWord1
  | .wrRxData b => wrRxData b
  | .wrRxCount => wrRxCount
  | .wrRxWord0 => wrRxWord0
  | .wrRxWord1 => wrRxWord1
  | .wrRxValue => wrRxValue
  | .wrRsvd w => wrRsvd w

end Sys2Proof.Laws.EncodesToItsRow
end

section
/-! SUPPORT. The rows of opcode_table.json (30_encoding.md R74): each word with RSV = 000 lies in the row of its
instruction's mnemonic, no two rows share a word, and no row has a word with RSV != 000. -/

namespace Sys2Proof

theorem OpcodeRow.covers_iff (r : OpcodeRow) (tw : TW) : r.covers tw = true ↔ tw &&& r.mask = r.pattern :=
  beq_iff_eq

/-- Two rows that share a word agree on the bits both of them look at. -/
theorem OpcodeRow.agree_of_covers {r r' : OpcodeRow} {tw : TW} (h : r.covers tw = true) (h' : r'.covers tw = true) :
    r.pattern &&& r'.mask = r'.pattern &&& r.mask := by
  rw [covers_iff] at h h'
  rw [← h, ← h', BitVec.and_assoc, BitVec.and_assoc, BitVec.and_comm r.mask]

/-- Any two rows of the table differ in a bit both of them look at. -/
theorem opcodeTable_pairwise_disagree :
    opcodeTable.Pairwise fun r r' => r.pattern &&& r'.mask ≠ r'.pattern &&& r.mask := by
  decide

/-- The rows of an instruction's mnemonic look at none of the bits the rules ignore for it. -/
theorem mask_within_significantBits (i : Instr) :
    ∀ r ∈ opcodeTable, r.mnemonic = i.mnemonic → significantBits i &&& r.mask = r.mask := by
  cases i <;> (simp only [Instr.mnemonic, significantBits]; decide)

/-- Every row asks for RSV = 000. -/
theorem opcodeTable_rsv : ∀ r ∈ opcodeTable, twRsv r.mask = BitVec.allOnes 3 ∧ twRsv r.pattern = 0#3 := by
  decide

/-- A word that decodes lies in a row of its instruction's mnemonic: the instruction's canonical word does, and the row
looks at no bit in which the two words differ. -/
theorem exists_row_of_decode {tw : TW} {i : Instr} (h : decode tw = .ok i) :
    ∃ r ∈ opcodeTable, r.mnemonic = i.mnemonic ∧ r.covers tw = true := by
  obtain ⟨hw, henc⟩ := encodeIsTheWordWithIgnoredBitsCleared tw i h
  obtain ⟨r, hr, hrow⟩ := List.any_eq_true.mp (Laws.EncodesToItsRow.statement_of_every_instr i hw)
  rw [Bool.and_eq_true, beq_iff_eq, OpcodeRow.covers_iff] at hrow
  obtain ⟨hname, hcov⟩ := hrow
  refine ⟨r, hr, hname, (r.covers_iff tw).mpr ?_⟩
  calc tw &&& r.mask
      _ = tw &&& (significantBits i &&& r.mask) := by rw [mask_within_significantBits i r hr hname]
      _ = encode i &&& r.mask := by rw [henc, BitVec.and_assoc]
      _ = r.pattern := hcov

/-- A row's words have RSV = 000. -/
theorem rsv_zero_of_covers {r : OpcodeRow} (hr : r ∈ opcodeTable) {tw : TW} (h : r.covers tw = true) :
    twRsv tw = 0#3 := by
  obtain ⟨hmask, hpattern⟩ := opcodeTable_rsv r hr
  calc twRsv tw
      _ = twRsv tw &&& twRsv r.mask := by rw [hmask, BitVec.and_allOnes]
      _ = twRsv (tw &&& r.mask) := BitVec.extractLsb'_and.symm
      _ = 0#3 := by rw [(r.covers_iff tw).mp h, hpattern]

/-- In a list no two of whose elements meet the test together, an element that meets it is all the filter keeps. -/
theorem filter_eq_singleton {α : Type} {p : α → Bool} {l : List α}
    (hl : l.Pairwise fun a b => ¬ (p a = true ∧ p b = true)) {a : α} (ha : a ∈ l) (hp : p a = true) :
    l.filter p = [a] := by
  induction l with
  | nil => cases ha
  | cons b l ih =>
    obtain ⟨hb, hl⟩ := List.pairwise_cons.mp hl
    obtain rfl | ha := List.mem_cons.mp ha
    · rw [List.filter_cons_of_pos hp, List.filter_eq_nil_iff.mpr fun c hc hpc => hb c hc ⟨hp, hpc⟩]
    · rw [List.filter_cons_of_neg fun hpb => hb a ha ⟨hpb, hp⟩, ih hl ha]

/-- Settles O12: the word's row exists by its canonical word, and is the only one because no two rows share a word. -/
theorem everyWordSelectsOneOpcodeRow : Obligations.EveryWordSelectsOneOpcodeRow := by
  unfold Obligations.EveryWordSelectsOneOpcodeRow
  constructor
  · intro tw hrsv
    obtain ⟨i, hi⟩ : ∃ i, decode tw = .ok i := ⟨_, if_pos hrsv⟩
    obtain ⟨r, hr, hname, hcov⟩ := exists_row_of_decode hi
    have hdisj : opcodeTable.Pairwise fun r r' => ¬ (r.covers tw = true ∧ r'.covers tw = true) :=
      opcodeTable_pairwise_disagree.imp fun hne hboth => hne (OpcodeRow.agree_of_covers hboth.1 hboth.2)
    exact ⟨r, i, filter_eq_singleton hdisj hr hcov, hi, hname.symm⟩
  · intro tw hrsv
    exact List.filter_eq_nil_iff.mpr fun r hr hcov => hrsv (rsv_zero_of_covers hr hcov)

end Sys2Proof
end

section
/-! SUPPORT. What the port refuses (30_encoding.md R76, 20_memory.md R51), the words the spec writes out (R73, R79), and
the layout of the built frame (R80, 41_frame_build.md R120). -/

namespace Sys2Proof.Machine

/-! ### Refusals -/

/-- An access outside the window is refused by its address, whatever its width. -/
theorem present_access_outside {base a : Word} (ha : ¬ inWindow base a = true) (size : AccessSize) (op : BusOp) :
    present base (.access size a op) = .refused (.outsideWindow a) :=
  if_neg ha

/-- Settles O8: a word with RSV != 000 reaches the decoder and is refused there, an access outside the window already at
the port. -/
theorem portRefusesWhatIsNoTransaction : Obligations.PortRefusesWhatIsNoTransaction := by
  unfold Obligations.PortRefusesWhatIsNoTransaction
  constructor
  · intro s tw rest hrsv hp
    have hdecode : decode tw = .error (.rsvNonzero (twRsv tw)) := decode_of_rsv_ne_zero hrsv
    rw [step_of_transaction hp (present_word _ tw), stepWord, hdecode]
    rfl
  · intro s size a op rest ha hp
    rw [← inWindow_iff] at ha
    exact step_of_refused hp (present_access_outside ha size op)

/-! ### Words written out -/

/-- Settles O13: each word is closed, and the decoder is run on it. -/
theorem specWordsDecodeAsNamed : Obligations.SpecWordsDecodeAsNamed := by
  unfold Obligations.SpecWordsDecodeAsNamed
  decide

/-- Settles O14: the head byte 0x81 is a write of CMD, whose opcode is DATA's low byte. -/
theorem commandIsSelectedByLowByteAlone : Obligations.CommandIsSelectedByLowByteAlone := by
  unfold Obligations.CommandIsSelectedByLowByteAlone
  intro hi op
  have hop : dataByte (hi ++ op) = op := BitVec.extractLsb'_append_eq_right
  calc decode (0x81#8 ++ (hi ++ op))
      _ = decode (mkTW true Reg.cmd.index (hi ++ op)) := congrArg decode (head_append_eq_mkTW true 1#4 (hi ++ op))
      _ = .ok (decodeCommand (dataByte (hi ++ op))) := by rw [decode_mkTW, ofIndex_index, if_pos rfl, decodeWrite]
      _ = .ok (decodeCommand op) := by rw [hop]

/-- A word whose DATA is a byte, zero-extended, is its head byte, 24 zero bits and the byte. -/
theorem mkTW_setWidth_byte (dir : Bool) (w : BitVec 4) (b : Byte) :
    mkTW dir w (b.setWidth 32) = ((BitVec.ofBool dir ++ (0#3 ++ w) : Byte) ++ 0#24 : Word) ++ b := by
  rw [BitVec.setWidth_eq_append (by decide), ← head_append_eq_mkTW]
  exact (BitVec.append_assoc (x₁ := (BitVec.ofBool dir ++ (0#3 ++ w) : Byte)) (x₂ := 0#24) (x₃ := b)).symm

/-- Settles O15: three rows carry a byte operand, the others are closed words. -/
theorem pseudoInstructionsExpandAsTabulated : Obligations.PseudoInstructionsExpandAsTabulated := by
  unfold Obligations.PseudoInstructionsExpandAsTabulated
  exact ⟨rfl, rfl, rfl, rfl, mkTW_setWidth_byte true 3#4, mkTW_setWidth_byte true 8#4,
    mkTW_setWidth_byte true 5#4, rfl, rfl, rfl⟩

/-! ### The built frame -/

/-- Settles O26: the trailer is the low and then the high byte of the header's CRC, and the constants are R6's. -/
theorem builtFrameHasTheRequestLayout : Obligations.BuiltFrameHasTheRequestLayout := by
  unfold Obligations.BuiltFrameHasTheRequestLayout
  intro a
  simp only [buildFrame, crcLo, crcHi, requestHeader, slaveId, readFunction, BitVec.ofNat_eq_ofNat]

end Sys2Proof.Machine
end

section
/-! SUPPORT. The CRC's byte step as eight iterations of its bit step (40_crc.md R100): on numbers, and in the
byte-at-a-time form of a lookup table (R103). Then the fold over a sequence (R101, R102). -/

open Sys2Proof.Claims

namespace Sys2Proof.Machine

/-! ### The iterations of the bit step -/

/-- The byte step as Mathlib's iteration of the bit step, in which the lemmas below are stated. -/
theorem crcStep_eq_iterate (a : Half) (b : Byte) : crcStep a b = crcBit^[8] (a ^^^ b.setWidth 16) := rfl

/-- Bit 0 is the parity, the logical shift the halving, and no operation leaves the 16 bits. -/
theorem crcBit_toNat (x : Half) : (crcBit x).toNat = bitOnNat x.toNat := by
  have hodd : x.getLsbD 0 = decide (x.toNat % 2 = 1) := Nat.testBit_zero _
  have hhalf : (x >>> 1).toNat = x.toNat / 2 := BitVec.toNat_ushiftRight ..
  simp only [crcBit, bitOnNat, hodd, decide_eq_true_eq]
  split_ifs
  · rw [BitVec.toNat_xor, hhalf]
    rfl
  · exact hhalf

/-- Settles O16: reading the word as a number turns each bit step into the step on numbers. -/
theorem crcStepIsEightIterationsOnNumbers : Obligations.CrcStepIsEightIterationsOnNumbers := by
  unfold Obligations.CrcStepIsEightIterationsOnNumbers
  intro a b
  have hsemi : Function.Semiconj BitVec.toNat crcBit bitOnNat := crcBit_toNat
  calc (crcStep a b).toNat
      _ = (crcBit^[8] (a ^^^ b.setWidth 16)).toNat := by rw [crcStep_eq_iterate]
      _ = bitOnNat^[8] (a ^^^ b.setWidth 16).toNat := hsemi.iterate_right 8 _
      _ = bitOnNat^[8] (a.toNat ^^^ b.toNat) := by rw [BitVec.toNat_xor, BitVec.toNat_setWidth_of_le (by decide)]

/-! ### The table-driven form -/

/-- Every iteration is linear, as one is. -/
theorem crcBit_iterate_xor (n : Nat) (x y : Half) : crcBit^[n] (x ^^^ y) = crcBit^[n] x ^^^ crcBit^[n] y := by
  induction n with
  | zero => rfl
  | succ n ih => simp only [Function.iterate_succ_apply', ih, crcBit_xor]

/-- As long as the bits shifted out are 0, the iterations are a shift. -/
theorem crcBit_iterate_of_low_zero {n : Nat} {x : Half} (h : ∀ i < n, x.getLsbD i = false) :
    crcBit^[n] x = x >>> n := by
  induction n generalizing x with
  | zero => rfl
  | succ n ih =>
    have hshifted : ∀ i < n, (x >>> 1).getLsbD i = false := by
      intro i hi
      rw [BitVec.getLsbD_ushiftRight]
      exact h (1 + i) (by omega)
    rw [Function.iterate_succ_apply, crcBit_of_even x (h 0 n.succ_pos), ih hshifted, Nat.add_comm n 1,
      BitVec.shiftRight_add]

/-- A byte has no bits above its eight. -/
theorem setWidth_ushiftRight_eight (b : Byte) : (b.setWidth 16 : Half) >>> 8 = 0#16 := by
  ext i hi
  simp

/-- Eight iterations shift the high byte down and replace the low byte by its table entry: the two bytes go through
apart by linearity, and the high one meets only zero bits. -/
theorem crcBit_iterate_eight (x : Half) :
    crcBit^[8] x = (x >>> 8) ^^^ crcStep 0#16 (x.extractLsb' 0 8) := by
  have hlow : ∀ i < 8, (x ^^^ (x.extractLsb' 0 8).setWidth 16).getLsbD i = false := by
    intro i hi
    simp [hi, show i < 16 by omega]
  have hhigh : (x ^^^ (x.extractLsb' 0 8).setWidth 16) >>> 8 = x >>> 8 := by
    rw [BitVec.ushiftRight_xor_distrib, setWidth_ushiftRight_eight, BitVec.xor_zero]
  calc crcBit^[8] x
      _ = crcBit^[8] ((x ^^^ (x.extractLsb' 0 8).setWidth 16) ^^^ (x.extractLsb' 0 8).setWidth 16) := by
        rw [BitVec.xor_assoc, BitVec.xor_self, BitVec.xor_zero]
      _ = (x >>> 8) ^^^ crcBit^[8] ((x.extractLsb' 0 8).setWidth 16) := by
        rw [crcBit_iterate_xor, crcBit_iterate_of_low_zero hlow, hhigh]
      _ = (x >>> 8) ^^^ crcStep 0#16 (x.extractLsb' 0 8) := by rw [crcStep_eq_iterate, BitVec.zero_xor]

/-- Settles O18: the byte lies below the bits that the shift keeps of the accumulator. -/
theorem tableDrivenCrcStepIsIdentical : Obligations.TableDrivenCrcStepIsIdentical := by
  unfold Obligations.TableDrivenCrcStepIsIdentical
  intro a b
  rw [crcStep_eq_iterate, crcBit_iterate_eight, BitVec.ushiftRight_xor_distrib, setWidth_ushiftRight_eight,
    BitVec.xor_zero, BitVec.ofNat_eq_ofNat]

/-! ### The fold -/

/-- Settles O17. -/
theorem crcFoldsBytesFromAllOnes : Obligations.CrcFoldsBytesFromAllOnes := by
  unfold Obligations.CrcFoldsBytesFromAllOnes
  refine ⟨rfl, fun s b => ?_⟩
  rw [crc16, crcFrom_append, crcFrom_cons, crcFrom_nil, crc16]

end Sys2Proof.Machine
end

section
/-! SUPPORT. Who writes the accumulator, and who reads it (40_crc.md R109). -/

namespace Sys2Proof.Machine

/-- ACC is restarted by CRC_INIT and stepped by a CRC_DATA write. -/
theorem engineAfter_acc_writers {i : Instr} {e : Engine} (h : (engineAfter i e).acc ≠ e.acc) :
    i = .crcInit ∨ ∃ b, i = .wrCrcData b := by
  cases i with
  | crcInit => exact .inl rfl
  | wrCrcData b => exact .inr ⟨b, rfl⟩
  | _ => exact absurd rfl h

/-- Settles O24: a step that changes ACC is a reset or performs one of ACC's writers. -/
theorem onlyCrcTransactionsAndResetWriteAcc : Obligations.OnlyCrcTransactionsAndResetWriteAcc := by
  unfold Obligations.OnlyCrcTransactionsAndResetWriteAcc
  intro s t h hacc
  obtain he | ⟨hr, -⟩ | ⟨i, hi, he⟩ := step_engine_cases h
  · exact absurd (congrArg Engine.acc he) hacc
  · exact .inr (.inr hr)
  · rw [he] at hacc
    obtain rfl | ⟨b, rfl⟩ := engineAfter_acc_writers hacc
    · exact .inl hi
    · exact .inr (.inl ⟨b, hi⟩)

/-- Settles O25: besides the three that the statement leaves out, no transaction's update or read data has ACC in it, so
that each answers the same from any accumulator and keeps it. -/
theorem frameTransactionsNeverReadAcc : Obligations.FrameTransactionsNeverReadAcc := by
  unfold Obligations.FrameTransactionsNeverReadAcc
  intro i s t a hinit hdata hvalue h
  cases i with
  | crcInit => exact absurd rfl hinit
  | wrCrcData b => exact absurd rfl (hdata b)
  | rdCrcValue => exact absurd rfl hvalue
  | _ =>
    obtain rfl := Host.Outcome.next.inj h
    exact ⟨rfl, rfl⟩

end Sys2Proof.Machine
end

section
/-! SUPPORT. Words written as a head byte and DATA (30_encoding.md R72, R74): those of the CRC generator (40_crc.md R104
to R108), and the words of the window that only read or only write (R107, R108; 41_frame_build.md R126;
42_frame_validate.md R149, R150; 43_control.md R176). -/

namespace Sys2Proof.Machine

/-- A word decodes by its head byte, whose bits are the direction and the register's index. -/
theorem decode_head_append (dir : Bool) (r : Reg) (d : Word) :
    decode ((BitVec.ofBool dir ++ (0#3 ++ r.index) : Byte) ++ d) =
      .ok (if dir then decodeWrite r d else decodeRead r) := by
  rw [head_append_eq_mkTW, decode_mkTW, ofIndex_index]

/-! ### The CRC generator's words -/

/-- Settles O20: the opcode 0x01 selects CRC_INIT, which restarts the accumulator. -/
theorem crcInitRestartsTheAccumulator : Obligations.CrcInitRestartsTheAccumulator := by
  unfold Obligations.CrcInitRestartsTheAccumulator
  exact ⟨fun hi => commandIsSelectedByLowByteAlone hi 0x01#8, exec_crcInit⟩

/-- Settles O21: the head byte 0x83 is a write of CRC_DATA. -/
theorem crcDataWriteStepsTheAccumulator : Obligations.CrcDataWriteStepsTheAccumulator := by
  unfold Obligations.CrcDataWriteStepsTheAccumulator
  exact ⟨decode_head_append true .crcData, exec_wrCrcData⟩

/-- CRC_VALUE's upper half is 0. -/
theorem crcValueWord_eq_append (e : Engine) : crcValueWord e = 0#16 ++ e.acc :=
  BitVec.setWidth_eq_append (by decide)

/-- Settles O22: the head byte 0x04 is a read of CRC_VALUE. -/
theorem crcValueReadsTheAccumulator : Obligations.CrcValueReadsTheAccumulator := by
  unfold Obligations.CrcValueReadsTheAccumulator
  refine ⟨decode_head_append false .crcValue, fun s => ?_⟩
  rw [← crcValueWord_eq_append]
  exact exec_rdCrcValue s

/-! ### Read-only and write-only words -/

/-- Settles O45: each head byte is a write of its register, and none of the seven writes updates the engine. -/
theorem readOnlyWordsIgnoreWrites : Obligations.ReadOnlyWordsIgnoreWrites := by
  unfold Obligations.ReadOnlyWordsIgnoreWrites
  refine ⟨fun d => ?_, fun s => ?_⟩
  · exact ⟨decode_head_append true .crcValue d, decode_head_append true .txWord0 d,
      decode_head_append true .txWord1 d, decode_head_append true .rxCount d, decode_head_append true .rxWord0 d,
      decode_head_append true .rxWord1 d, decode_head_append true .rxValue d⟩
  · simp only [List.forall_mem_cons]
    exact ⟨exec_wrCrcValue s, exec_wrTxWord0 s, exec_wrTxWord1 s, exec_wrRxCount s, exec_wrRxWord0 s,
      exec_wrRxWord1 s, exec_wrRxValue s, nofun⟩

/-- Settles O46: each head byte is a read of its register, whose view is 0. -/
theorem writeOnlyWordsReadZero : Obligations.WriteOnlyWordsReadZero := by
  unfold Obligations.WriteOnlyWordsReadZero
  refine ⟨fun d => ?_, fun s => ?_⟩
  · exact ⟨decode_head_append false .crcData d, decode_head_append false .rxData d,
      decode_head_append false .cmd d⟩
  · simp only [List.forall_mem_cons]
    exact ⟨exec_rdCrcData s, exec_rdRxData s, exec_rdCmd s, nofun⟩

end Sys2Proof.Machine
end

section
/-! SUPPORT. The request frame builder's transactions (41_frame_build.md R121 to R125): the words that reach them, what
they answer, and the two TX words of a frame just built. -/

namespace Sys2Proof.Machine

/-! ### The TX words after a build -/

/-- Four packed bytes are two halves, the later bytes in the upper one. -/
theorem packLanes_eq_append_halves (b0 b1 b2 b3 : Byte) :
    packLanes b0 b1 b2 b3 = (b3 ++ b2 : Half) ++ (b1 ++ b0 : Half) :=
  (BitVec.append_assoc (x₁ := b3) (x₂ := b2) (x₃ := (b1 ++ b0 : Half))).symm

/-- R123's example for every address: TX_WORD0 of a built frame is the address above the header's first three bytes. -/
theorem txWord0_buildRequest (e : Engine) : txWord0 (buildRequest e) = e.reqa ++ 0x000301#24 := by
  have hheader : (0x00#8 ++ (0x03#8 ++ 0x01#8) : BitVec 24) = 0x000301#24 := rfl
  calc txWord0 (buildRequest e)
      _ = packLanes 0x01#8 0x03#8 0x00#8 e.reqa := rfl
      _ = e.reqa ++ 0x000301#24 := congrArg (fun low : BitVec 24 => (e.reqa ++ low : Word)) hheader

/-- R125's corner case: TX_WORD1 of a built frame is the header's CRC, as one half, above the header's last two
bytes. -/
theorem txWord1_buildRequest (e : Engine) :
    txWord1 (buildRequest e) = crc16 (requestHeader e.reqa) ++ 0x0100#16 := by
  have hbytes : txWord1 (buildRequest e) =
      packLanes 0x00#8 0x01#8 (crcLo (crc16 (requestHeader e.reqa))) (crcHi (crc16 (requestHeader e.reqa))) := rfl
  rw [hbytes, packLanes_eq_append_halves, crcHi_append_crcLo]
  rfl

/-- Settles O30: the build keeps REQA and the first read keeps the built frame, so each word is the one computed above,
and its two fields are the two parts of an append. -/
theorem txWordsAfterBuildHoldAddressAndTrailer : Obligations.TxWordsAfterBuildHoldAddressAndTrailer := by
  unfold Obligations.TxWordsAfterBuildHoldAddressAndTrailer
  intro s
  refine ⟨_, _, _, exec_buildRequest s, exec_rdTxWord0 _, exec_rdTxWord1 _, ?_⟩
  simp only [completeRead_rdata, completeWrite_engine, readRegister, txWord0_buildRequest, txWord1_buildRequest]
  exact ⟨BitVec.extractLsb'_append_eq_right, BitVec.extractLsb'_append_eq_left,
    BitVec.extractLsb'_append_eq_right, BitVec.extractLsb'_append_eq_left⟩

/-! ### What each transaction answers -/

/-- REQ_ADDR's upper 24 bits are 0. -/
theorem reqAddrWord_eq_append (e : Engine) : reqAddrWord e = 0#24 ++ e.reqa :=
  BitVec.setWidth_eq_append (by decide)

/-- Settles O27: the head bytes 0x85 and 0x05 are the write and the read of REQ_ADDR. -/
theorem reqAddrIsStoredAndReadBack : Obligations.ReqAddrIsStoredAndReadBack := by
  unfold Obligations.ReqAddrIsStoredAndReadBack
  refine ⟨fun d => ⟨decode_head_append true .reqAddr d, decode_head_append false .reqAddr d⟩, exec_wrReqAddr,
    fun s => ?_⟩
  rw [← reqAddrWord_eq_append]
  exact exec_rdReqAddr s

/-- Settles O28: the opcode 0x02 selects BUILD_REQUEST, whose update is the one written out. -/
theorem buildRequestFillsTheTransmitBuffer : Obligations.BuildRequestFillsTheTransmitBuffer := by
  unfold Obligations.BuildRequestFillsTheTransmitBuffer
  exact ⟨fun hi => commandIsSelectedByLowByteAlone hi 0x02#8, exec_buildRequest⟩

/-- Settles O29: the head bytes 0x06 and 0x07 are the reads of the TX words, whose lanes `packLanes` writes out. -/
theorem txWordsReadTheTransmitBuffer : Obligations.TxWordsReadTheTransmitBuffer := by
  unfold Obligations.TxWordsReadTheTransmitBuffer
  exact ⟨fun d => ⟨decode_head_append false .txWord0 d, decode_head_append false .txWord1 d⟩,
    fun s => ⟨exec_rdTxWord0 s, exec_rdTxWord1 s⟩⟩

end Sys2Proof.Machine
end

section
/-! SUPPORT. The response frame validator's transactions (42_frame_validate.md R141 to R148): when validation gives each
of its results, the signed data value, the receive count along a step, and what each transaction answers. -/

namespace Sys2Proof.Machine

/-! ### Validation -/

/-- Settles O34: the four outcomes of `validate_cases` exclude each other, and its two trailer bytes are the CRC's
exactly when their little-endian value is the CRC. -/
theorem validationResultsFollowTheCheckOrder : Obligations.ValidationResultsFollowTheCheckOrder := by
  unfold Obligations.ValidationResultsFollowTheCheckOrder
  intro buf n chk trailer crc
  have hlength : n = 7#8 ↔ n.toNat = 7 := BitVec.toNat_inj.symm
  have htrailer : trailer = crc ↔
      buf[5] = crcLo (crc16 (responseBody buf)) ∧ buf[6] = crcHi (crc16 (responseBody buf)) :=
    eq_comm.trans (eq_append_iff_trailer crc buf[5] buf[6])
  simp only [ne_eq, hlength, htrailer]
  obtain ⟨hn, hv⟩ | ⟨hn, hf, hv⟩ | ⟨hn, hf, ⟨hchk, hbad⟩, hv⟩ | ⟨hn, hf, hgood, hv⟩ := validate_cases buf n chk <;>
    rw [hv]
  · simp [hn]
  · simp [hn, hf]
  · simp [hn, hf, hchk, hbad]
  · simpa [hn, hf] using hgood

/-! ### The data value -/

/-- R148: the high data byte carries the sign, and the low one counts up from it. -/
theorem rxValueWord_toInt (e : Engine) : (rxValueWord e).toInt = e.rxbuf[3].toInt * 256 + e.rxbuf[4].toNat :=
  calc (rxValueWord e).toInt
    _ = (e.rxbuf[3] ++ e.rxbuf[4] : Half).toInt := BitVec.toInt_signExtend_of_le (by decide)
    _ = 2 ^ 8 * e.rxbuf[3].toInt + e.rxbuf[4].toNat := BitVec.toInt_append
    _ = e.rxbuf[3].toInt * 256 + e.rxbuf[4].toNat := by omega

/-- Settles O36: the head byte 0x0C is the read of RX_VALUE. -/
theorem rxValueIsTheSignedBigEndianValue : Obligations.RxValueIsTheSignedBigEndianValue := by
  unfold Obligations.RxValueIsTheSignedBigEndianValue
  exact ⟨decode_head_append false .rxValue, fun s => ⟨_, exec_rdRxValue s, rxValueWord_toInt s.engine⟩⟩

/-! ### The receive count -/

/-- The saturating count never falls below the count before it. -/
theorem le_rxCountNext (n : Byte) : n.toNat ≤ (rxCountNext n).toNat := by
  have hn := n.isLt
  rw [rxCountNext_toNat]
  omega

/-- A transaction but RX_CLEAR counts one byte up or leaves the count alone. -/
theorem engineAfter_rxcnt_ge {i : Instr} (h : i ≠ .rxClear) (e : Engine) :
    e.rxcnt.toNat ≤ (engineAfter i e).rxcnt.toNat := by
  cases i with
  | rxClear => exact absurd rfl h
  | wrRxData b => exact le_rxCountNext e.rxcnt
  | _ => exact le_rfl

/-- Settles O38: a step that is no reset leaves the engine as it was or updates it by one transaction. -/
theorem rxCountFallsOnlyByClearOrReset : Obligations.RxCountFallsOnlyByClearOrReset := by
  unfold Obligations.RxCountFallsOnlyByClearOrReset
  intro s t h hclear hreset
  obtain he | ⟨hr, -⟩ | ⟨i, hi, he⟩ := step_engine_cases h
  · rw [he]
  · exact absurd hr hreset
  · have hne : i ≠ .rxClear := by
      rintro rfl
      exact hclear hi
    rw [he]
    exact engineAfter_rxcnt_ge hne s.engine

/-! ### What each transaction answers -/

/-- Settles O31: the head byte 0x88 is the write of RX_DATA, whose buffer and count are those of `rxPush`. -/
theorem rxDataWriteAppendsAByte : Obligations.RxDataWriteAppendsAByte := by
  unfold Obligations.RxDataWriteAppendsAByte
  exact ⟨decode_head_append true .rxData, fun b s => ⟨rxStore s.engine.rxbuf s.engine.rxcnt b,
    rxCountNext s.engine.rxcnt, exec_wrRxData b s, rxCountNext_toNat _,
    fun i => rxStore_getElem _ _ _ i.val i.isLt⟩⟩

/-- Settles O32: the opcode 0x04 selects RX_CLEAR, whose seven zero bytes are the ones written out. -/
theorem rxClearEmptiesTheReceiveBuffer : Obligations.RxClearEmptiesTheReceiveBuffer := by
  unfold Obligations.RxClearEmptiesTheReceiveBuffer
  exact ⟨fun hi => commandIsSelectedByLowByteAlone hi 0x04#8, exec_rxClear⟩

/-- Settles O33: the opcode 0x03 selects VALIDATE, whose update is the one written out. -/
theorem validateJudgesTheBufferIntoVres : Obligations.ValidateJudgesTheBufferIntoVres := by
  unfold Obligations.ValidateJudgesTheBufferIntoVres
  exact ⟨fun hi => commandIsSelectedByLowByteAlone hi 0x03#8, exec_validate⟩

/-- RX_COUNT's upper 24 bits are 0. -/
theorem rxCountWord_eq_append (e : Engine) : rxCountWord e = 0#24 ++ e.rxcnt :=
  BitVec.setWidth_eq_append (by decide)

/-- Settles O35: the head bytes 0x09 to 0x0B are the reads of RX_COUNT and the RX words, whose lanes `packLanes` writes
out. -/
theorem rxWordsReadCountAndBuffer : Obligations.RxWordsReadCountAndBuffer := by
  unfold Obligations.RxWordsReadCountAndBuffer
  refine ⟨fun d => ⟨decode_head_append false .rxCount d, decode_head_append false .rxWord0 d,
    decode_head_append false .rxWord1 d⟩, fun s => ⟨?_, exec_rdRxWord0 s, exec_rdRxWord1 s⟩⟩
  rw [← rxCountWord_eq_append]
  exact exec_rdRxCount s

end Sys2Proof.Machine
end

section
/-! SUPPORT. Which transactions change each register that is no flag (43_control.md R170, 41_frame_build.md R121, R123,
42_frame_validate.md R141, R142), and the control, status, illegal-command and reserved-word transactions (43_control.md
R170 to R177). -/

namespace Sys2Proof.Machine

/-! ### The writers of each register -/

/-- CHKEN is stored by a CTRL write. -/
theorem engineAfter_chken_writers {i : Instr} {e : Engine} (h : (engineAfter i e).chken ≠ e.chken) :
    ∃ c, i = .wrCtrl c := by
  cases i with
  | wrCtrl c => exact ⟨c, rfl⟩
  | _ => exact absurd rfl h

/-- REQA is stored by a REQ_ADDR write. -/
theorem engineAfter_reqa_writers {i : Instr} {e : Engine} (h : (engineAfter i e).reqa ≠ e.reqa) :
    ∃ a, i = .wrReqAddr a := by
  cases i with
  | wrReqAddr a => exact ⟨a, rfl⟩
  | _ => exact absurd rfl h

/-- The transmit buffer is filled by BUILD_REQUEST. -/
theorem engineAfter_txbuf_writers {i : Instr} {e : Engine} (h : (engineAfter i e).txbuf ≠ e.txbuf) :
    i = .buildRequest := by
  cases i with
  | buildRequest => rfl
  | _ => exact absurd rfl h

/-- The receive buffer and its count are written by RX_DATA writes and RX_CLEAR. -/
theorem engineAfter_rx_writers {i : Instr} {e : Engine}
    (h : (engineAfter i e).rxbuf ≠ e.rxbuf ∨ (engineAfter i e).rxcnt ≠ e.rxcnt) :
    (∃ b, i = .wrRxData b) ∨ i = .rxClear := by
  cases i with
  | wrRxData b => exact .inl ⟨b, rfl⟩
  | rxClear => exact .inr rfl
  | _ => exact h.elim (absurd rfl) (absurd rfl)

/-- Settles O50: a step that changes a register is a reset, or performs one of the register's writers. -/
theorem registersChangeOnlyByTheirWriters : Obligations.RegistersChangeOnlyByTheirWriters := by
  unfold Obligations.RegistersChangeOnlyByTheirWriters
  intro s t h
  obtain he | ⟨hr, -⟩ | ⟨i, hi, he⟩ := step_engine_cases h
  · rw [he]
    exact ⟨absurd rfl, absurd rfl, absurd rfl, fun hc => hc.elim (absurd rfl) (absurd rfl)⟩
  · exact ⟨fun _ => .inr hr, fun _ => .inr hr, fun _ => .inr hr, fun _ => .inr (.inr hr)⟩
  · rw [he]
    refine ⟨fun hc => ?_, fun hc => ?_, fun hc => ?_, fun hc => ?_⟩
    · obtain ⟨c, rfl⟩ := engineAfter_chken_writers hc
      exact .inl ⟨c, hi⟩
    · obtain ⟨a, rfl⟩ := engineAfter_reqa_writers hc
      exact .inl ⟨a, hi⟩
    · obtain rfl := engineAfter_txbuf_writers hc
      exact .inl hi
    · obtain ⟨b, rfl⟩ | rfl := engineAfter_rx_writers hc
      · exact .inl ⟨b, hi⟩
      · exact .inr (.inl hi)

/-! ### CTRL and STATUS -/

/-- CTRL as read is CHKEN as a number. -/
theorem ctrlWord_eq_ite (e : Engine) : ctrlWord e = if e.chken then 1 else 0 := by
  unfold ctrlWord
  cases e.chken <;> rfl

/-- Settles O41: the head bytes 0x80 and 0x00 are the write and the read of CTRL. -/
theorem ctrlHoldsTheCheckEnable : Obligations.CtrlHoldsTheCheckEnable := by
  unfold Obligations.CtrlHoldsTheCheckEnable
  refine ⟨fun d => ⟨decode_head_append true .ctrl d, decode_head_append false .ctrl d⟩, exec_wrCtrl, fun s => ?_⟩
  rw [← ctrlWord_eq_ite]
  exact exec_rdCtrl s

/-- R172: the three fields of STATUS have the weights 16, 8 and 1. -/
theorem statusWord_toNat (e : Engine) :
    (statusWord e).toNat =
      (if e.cmderr then 16 else 0) + (if e.txv then 8 else 0) + e.vres.code.toNat := by
  unfold statusWord
  cases e.cmderr <;> cases e.txv <;> cases e.vres <;> rfl

/-- Settles O42: the head byte 0x02 is the read of STATUS, and each result has the code of 60_exceptions.md R201. -/
theorem statusReadsTheThreeFlags : Obligations.StatusReadsTheThreeFlags := by
  unfold Obligations.StatusReadsTheThreeFlags
  refine ⟨decode_head_append false .status, fun s => ⟨_, exec_rdStatus s, ?_⟩⟩
  rw [readRegister, statusWord_toNat]
  cases s.engine.vres <;> rfl

/-- Settles O43: the head byte 0x82 is the write of STATUS, whose update clears CMDERR or keeps it. -/
theorem statusWriteClearsOnlyCmdErr : Obligations.StatusWriteClearsOnlyCmdErr := by
  unfold Obligations.StatusWriteClearsOnlyCmdErr
  exact ⟨decode_head_append true .status, fun s => ⟨exec_wrStatus true s, exec_wrStatus false s⟩⟩

/-! ### Illegal commands and reserved words -/

/-- Settles O44: the opcodes of the hypothesis are R75's illegal ones, and the low byte selects the command. -/
theorem illegalCommandSetsOnlyCmdErr : Obligations.IllegalCommandSetsOnlyCmdErr := by
  unfold Obligations.IllegalCommandSetsOnlyCmdErr
  refine ⟨fun hi op hop => ?_, exec_cmdIllegal⟩
  have hillegal : isIllegalOpcode op = true := by simpa [isIllegalOpcode] using hop
  exact (commandIsSelectedByLowByteAlone hi op).trans (congrArg Except.ok (decodeCommand_illegal op hillegal))

/-- The words 13 to 15 are the reserved ones, which decode to themselves in both directions. -/
theorem decodeRead_decodeWrite_of_reserved {w : BitVec 4} (h : 13 ≤ w.toNat) (d : Word) :
    decodeRead (Reg.ofIndex w) = .rdRsvd w ∧ decodeWrite (Reg.ofIndex w) d = .wrRsvd w := by
  have hw : w = 13#4 ∨ w = 14#4 ∨ w = 15#4 := by bv_omega
  obtain rfl | rfl | rfl := hw <;> exact ⟨rfl, rfl⟩

/-- Settles O47: a reserved word's read view is 0, and its write updates nothing. -/
theorem reservedWordsReadZeroAndIgnoreWrites : Obligations.ReservedWordsReadZeroAndIgnoreWrites := by
  unfold Obligations.ReservedWordsReadZeroAndIgnoreWrites
  refine ⟨fun w d hw => ?_, fun w s => ⟨exec_rdRsvd w s, exec_wrRsvd w s⟩⟩
  obtain ⟨hread, hwrite⟩ := decodeRead_decodeWrite_of_reserved hw d
  exact ⟨hread ▸ decode_readWord w d, hwrite ▸ decode_writeWord w d⟩

end Sys2Proof.Machine
end

section
/-! SUPPORT. A step as a total answer (60_exceptions.md R200, 20_memory.md R57): every word of the transaction map
decodes and completes, and what is no transaction is refused, not faulted. -/

namespace Sys2Proof.Machine

/-- Every word with RSV = 000 is some transaction's (30_encoding.md R74). -/
theorem exists_decode_of_rsv_zero {tw : TW} (h : twRsv tw = 0#3) : ∃ i, decode tw = .ok i := by
  obtain ⟨r, d, ⟨-, hread⟩ | ⟨-, hwrite⟩⟩ := exists_register_of_rsv_zero h
  · exact ⟨_, hread⟩
  · exact ⟨_, hwrite⟩

/-- A word with RSV = 000 completes: it is taken from the list, and the host's index advances by one. -/
theorem stepWord_answers {tw : TW} (h : twRsv tw = 0#3) (rest : List BusCycle) (s : State) :
    ∃ t, stepWord tw rest s = .next t ∧ t.host.pending = rest ∧ t.host.index = s.host.index + 1 := by
  obtain ⟨i, hi⟩ := exists_decode_of_rsv_zero h
  rw [stepWord_of_decode hi]
  exact exec_answers i (issueTransaction rest s)

/-- A word with RSV != 000 is refused by its RSV bits (30_encoding.md R76). -/
theorem stepWord_of_rsv_ne_zero {tw : TW} (h : twRsv tw ≠ 0#3) (rest : List BusCycle) (s : State) :
    stepWord tw rest s = .refused (.noTransaction (twRsv tw)) := by
  simp only [stepWord, decode_of_rsv_ne_zero h]

/-- No transaction word faults: it completes or is refused. -/
theorem stepWord_ne_fault (tw : TW) (rest : List BusCycle) (s : State) (f : Fault) :
    stepWord tw rest s ≠ .fault f := by
  by_cases h : twRsv tw = 0#3
  · obtain ⟨t, ht, -⟩ := stepWord_answers h rest s
    rw [ht]
    nofun
  · rw [stepWord_of_rsv_ne_zero h]
    nofun

/-- No step faults, whatever the port sees of the first cycle. -/
theorem step_ne_fault (s : State) (f : Fault) : step s ≠ .fault f := by
  cases hp : s.host.pending with
  | nil =>
    rw [step_of_pending_nil hp]
    nofun
  | cons c rest =>
    cases hc : present Config.crcBase c with
    | transaction tw =>
      rw [step_of_transaction hp hc]
      exact stepWord_ne_fault tw rest s f
    | reset =>
      simp only [step, hp, hc]
      nofun
    | refused r =>
      rw [step_of_refused hp hc]
      nofun

/-- Settles O9: `exec` answers a next state for every term, and so does a step on a word of the transaction map, which
the port takes as it stands. -/
theorem everyTransactionCompletes : Obligations.EveryTransactionCompletes := by
  unfold Obligations.EveryTransactionCompletes
  refine ⟨exec_answers, fun s tw rest hrsv hp => ?_, step_ne_fault⟩
  rw [step_of_transaction hp (present_word _ tw)]
  exact stepWord_answers hrsv rest s

end Sys2Proof.Machine
end

section
/-! SUPPORT. Reset at the port (70_reset_and_hazards.md R220): what a reset cycle leaves behind does not depend on the
state it finds, so that a transaction completed before it leaves no trace in the engine. -/

namespace Sys2Proof.Machine

/-- A first cycle whose word decodes completes and is taken from the list. -/
theorem step_of_word_decode {s : State} {tw : TW} {i : Instr} {rest : List BusCycle} (hi : decode tw = .ok i)
    (hp : s.host.pending = .word tw :: rest) : ∃ t, step s = .next t ∧ t.host.pending = rest := by
  obtain ⟨t, ht, hrest, -⟩ := stepWord_answers (rsv_zero_of_decode hi) rest s
  exact ⟨t, by rw [step_of_transaction hp (present_word _ tw), ht], hrest⟩

/-- A run of one reset cycle ends in the reset engine, with the later cycles still pending. -/
theorem runSteps_one_of_reset {s : State} {rest : List BusCycle} (hp : s.host.pending = .reset :: rest) :
    ∃ t, runSteps 1 s = .next t ∧ t.engine = State.reset.engine ∧ t.host.pending = rest := by
  obtain ⟨t, ht, hte, htp⟩ := step_of_reset hp
  exact ⟨t, runSteps_succ ht 0, hte, htp⟩

/-- Settles O2: the step on a reset cycle, whose engine `Engine.reset` is that of `State.reset`. -/
theorem resetCycleRestoresTheEngine : Obligations.ResetCycleRestoresTheEngine := by
  unfold Obligations.ResetCycleRestoresTheEngine
  intro s rest hp
  exact step_of_reset hp

/-- Settles O3: the transaction completes in some state with the reset next, and from there, as from the state without
the transaction, the reset cycle alone decides the engine. -/
theorem resetOverlapEndsInResetEitherWay : Obligations.ResetOverlapEndsInResetEitherWay := by
  unfold Obligations.ResetOverlapEndsInResetEitherWay
  intro s tw i rest hi
  constructor
  · obtain ⟨u, hu, hup⟩ := step_of_word_decode hi (withPending_pending (.word tw :: .reset :: rest) s)
    rw [runSteps_succ hu]
    exact runSteps_one_of_reset hup
  · exact runSteps_one_of_reset (withPending_pending (.reset :: rest) s)

end Sys2Proof.Machine
end

section
/-! SUPPORT. The residue of a sequence with its CRC trailer (40_crc.md R111): a step on the accumulator's own low byte
only shifts that byte out. -/

namespace Sys2Proof.Machine

/-- The low byte of the accumulator cancels the byte that enters, and the table entry of 0 is 0. -/
theorem crcStep_low_byte (a : Half) : crcStep a (a.extractLsb' 0 8) = a >>> 8 := by
  have hcancel : (a ^^^ (a.extractLsb' 0 8).setWidth 16).extractLsb' 0 8 = 0#8 := by
    ext i hi
    simp [hi, show i < 16 by omega]
  have hzero : crcStep 0 0#8 = 0#16 := by decide
  rw [tableDrivenCrcStepIsIdentical, hcancel, hzero, BitVec.xor_zero]

/-- The second byte of the accumulator is the low byte of what a step on its first leaves. -/
theorem extractLsb'_ushiftRight_eight (a : Half) : (a >>> 8).extractLsb' 0 8 = a.extractLsb' 8 8 := by
  ext i hi
  simp

/-- Two steps on an accumulator's own bytes, low byte first, shift all of it out. -/
theorem crcFrom_own_trailer (a : Half) : crcFrom a [a.extractLsb' 0 8, a.extractLsb' 8 8] = 0#16 :=
  calc crcFrom a [a.extractLsb' 0 8, a.extractLsb' 8 8]
    _ = crcStep (crcStep a (a.extractLsb' 0 8)) (a.extractLsb' 8 8) := rfl
    _ = crcStep (a >>> 8) ((a >>> 8).extractLsb' 0 8) := by rw [crcStep_low_byte, extractLsb'_ushiftRight_eight]
    _ = a >>> 8 >>> 8 := crcStep_low_byte (a >>> 8)
    _ = 0#16 := by rw [← BitVec.shiftRight_add, BitVec.ushiftRight_eq_zero (by decide)]

/-- Settles O19: the fold over the trailer starts from the CRC whose bytes the trailer holds. -/
theorem crcOfSequenceWithTrailerIsZero : Obligations.CrcOfSequenceWithTrailerIsZero := by
  unfold Obligations.CrcOfSequenceWithTrailerIsZero
  intro m
  rw [crc16, crcFrom_append]
  exact crcFrom_own_trailer (crc16 m)

end Sys2Proof.Machine
end

section
/-! SUPPORT. RX_CLEAR and a sequence of bytes from any state (42_frame_validate.md R140, R152): RX_CLEAR empties the
buffer and the count, so that what they hold afterwards is the sequence's. -/

namespace Sys2Proof.Machine

/-- Received bytes leave no judgement where there was none. -/
theorem rxPushAll_vres {e : Engine} (hv : e.vres = .none) (raw : List Byte) : (rxPushAll raw e).vres = .none := by
  induction raw using List.reverseRecOn with
  | nil => exact hv
  | append_singleton raw b => rw [rxPushAll_concat, rxPush_vres]

/-- Settles O39: the run is the received bytes from the engine that RX_CLEAR leaves. -/
theorem pushedBytesFillTheBuffer : Obligations.PushedBytesFillTheBuffer := by
  unfold Obligations.PushedBytesFillTheBuffer
  intro s raw
  have hw : ∀ i ∈ Instr.rxClear :: raw.map .wrRxData, i.WellFormed := by
    simp only [List.forall_mem_cons, List.forall_mem_map]
    exact ⟨rfl, fun _ _ => rfl⟩
  obtain ⟨t, ht, hte, htp⟩ := runSteps_cyclesOf hw (withPending_pending _ s)
  have hrun : t.engine = rxPushAll raw (rxClear s.engine) := hte
  refine ⟨t, by simpa using ht, ?_, ?_, ?_, htp⟩ <;> rw [hrun]
  · exact rxPushAll_rxcnt (rxClear_rxcnt s.engine) raw
  · exact rxPushAll_rxbuf (rxClear_rxcnt s.engine) (rxClear_rxbuf s.engine) raw
  · rw [← rxPushAll_vres (rxClear_vres s.engine) raw]
    exact rxPushAll_frame raw (rxClear s.engine)

/-- Settles O40: VALIDATE judges the buffer and the count that the bytes have filled, and no byte changes CHKEN. -/
theorem validateMeetsTheSourceContract : Obligations.ValidateMeetsTheSourceContract := by
  unfold Obligations.ValidateMeetsTheSourceContract
  intro s raw hchk
  obtain ⟨t, ht, hte, htp⟩ := runSteps_cyclesOf
    (List.forall_mem_cons.mpr ⟨rfl, push_then_validate_wellFormed raw⟩ : ∀ i ∈ Instr.rxClear :: _, i.WellFormed)
    (withPending_pending _ s)
  have hrun : t.engine = runValidate (rxPushAll raw (rxClear s.engine)) := by
    rw [hte, engineAfterAll_cons, engineAfterAll_append]
    rfl
  have hchken : (rxPushAll raw (rxClear s.engine)).chken = true := by
    rw [rxPushAll_frame]
    exact hchk
  refine ⟨t, by simpa using ht, ?_, htp⟩
  rw [hrun, runValidate_vres, hchken]
  exact validate_eq_validateResponse (rxPushAll_rxcnt (rxClear_rxcnt s.engine) raw)
    (rxPushAll_rxbuf (rxClear_rxcnt s.engine) (rxClear_rxbuf s.engine) raw)

end Sys2Proof.Machine
end
